-- ==== Sys2Proof/Word.lean ====
section
/-! DEFINITION. The words the manual itself uses for data: bytes, levels, line samples, pin levels,
and tables of a fixed number of like records (48 slots, 16 channels, 8 patterns, ...). -/

namespace Sys2Proof

/-- One byte of the image, of a request or of a response (chapter 11). -/
abbrev Byte := BitVec 8

/-- A slot, source or output level (chapter 0, "Levels"). -/
inductive Level where
  | released
  | asserted
deriving DecidableEq, Repr, Inhabited

/-- The opposite level. -/
def Level.opposite : Level → Level
  | .released => .asserted
  | .asserted => .released

/-- A level seen through an invert flag (R60). -/
def Level.through (invert : Bool) (v : Level) : Level :=
  if invert then v.opposite else v

/-- ASSERTED for a DRIVEN level cell, RELEASED for a FREE one (R43). -/
def Level.ofDriven (driven : Bool) : Level :=
  if driven then .asserted else .released

/-- The bit a level is reported by: 1 is ASSERTED (section 11.4). -/
def Level.bit : Level → Bool
  | .released => false
  | .asserted => true

/-- The receiver's report of one sample of the event line (R1). -/
inductive Sample where
  | driven
  | free
  | ambiguous
deriving DecidableEq, Repr

/-- The level of a pin, high or low (section 5.2). -/
inductive PinLevel where
  | low
  | high
deriving DecidableEq, Repr, Inhabited

/-- What the station does with one of its output pins. -/
inductive PinDrive where
  | undriven
  | low
  | high
deriving DecidableEq, Repr

/-- A pin that the station drives at a level. -/
def PinLevel.drive : PinLevel → PinDrive
  | .low => .low
  | .high => .high

/-- The two host-power pins (section 5.4). -/
inductive HostPin where
  | hpon
  | hpawake
deriving DecidableEq, Repr

/-- A timer: stopped, or running toward the duration, in milliseconds, it was last started for.
DESIGN CHOICE (log 17). -/
inductive Timer where
  | stopped
  | running (ms : Nat)
deriving DecidableEq, Repr

/-- The timer is running. -/
def Timer.isRunning : Timer → Bool
  | .stopped => false
  | .running _ => true

/-- The table whose entry `i` is `f i`. -/
def tab {α : Type} {n : Nat} (f : Fin n → α) : Vector α n := Vector.ofFn f

/-- The table `v` with entry `i` replaced by `x`. -/
def put {α : Type} {n : Nat} (v : Vector α n) (i : Fin n) (x : α) : Vector α n :=
  v.set i.val x i.isLt

@[simp] theorem get_tab {α : Type} {n : Nat} (f : Fin n → α) (i : Fin n) :
    (tab f).get i = f i := by
  simp [tab]

theorem get_put {α : Type} {n : Nat} (v : Vector α n) (i j : Fin n) (x : α) :
    (put v i x).get j = if i = j then x else v.get j := by
  simp only [put, Vector.get_eq_getElem, Vector.getElem_set, Fin.ext_iff]

@[simp] theorem get_put_same {α : Type} {n : Nat} (v : Vector α n) (i : Fin n) (x : α) :
    (put v i x).get i = x := by
  simp [get_put]

theorem get_put_other {α : Type} {n : Nat} (v : Vector α n) {i j : Fin n} (x : α) (h : i ≠ j) :
    (put v i x).get j = v.get j := by
  simp [get_put, h]

/-- Two tables with the same entries are the same table. -/
theorem tab_ext {α : Type} {n : Nat} {v w : Vector α n} (h : ∀ i, v.get i = w.get i) : v = w := by
  apply Vector.ext
  intro i hi
  exact h ⟨i, hi⟩

end Sys2Proof
end

