-- ==== Sys2Proof/Config.lean ====
section
/-! DEFINITION. What is fixed for every S4812 (the durations and counts of the timing tables), and
the model's FREE VALUES: opaque constants without a body, for what the manual leaves open. -/

namespace Sys2Proof.Config

/-- Idle gap after a frame the station took part in, in cells (R3, section 1.8). -/
def shortGap : Nat := 6
/-- Idle gap after LOADING, a false start or a falling edge that is no start, in cells (R3). -/
def longGap : Nat := 104
/-- Tenths of a cell time in one cell: 10, so that one tenth is nominally 1 microsecond (1.8). -/
def tenthsPerCell : Nat := 10
/-- Cells of the start pattern's DRIVEN part (R5). -/
def startCells : Nat := 4
/-- The longest start pattern DRIVEN run that is accepted, in cells (R4). -/
def startCellsMax : Nat := 5
/-- Position of the first presence cell (section 11.1). -/
def firstSlotCell : Nat := 5
/-- Position of the CHECK cell (section 11.1). -/
def checkCell : Nat := 101
/-- Void frames in a row that put the station in backoff (R18). -/
def backoffVoids : Nat := 8
/-- Backoff, in milliseconds (R18). -/
def backoffMs : Nat := 50
/-- Stuck threshold, in milliseconds; the line must be DRIVEN for more than this (R20). -/
def stuckMs : Nat := 2
/-- Stuck recovery, in milliseconds (R21). -/
def recoveryMs : Nat := 1
/-- Filter time of HPON and HPAWAKE, in milliseconds (R85). -/
def hostFilterMs : Nat := 1
/-- Journal capacity, in records (R140). -/
def journalMax : Nat := 32
/-- Bytes of one profile (section 9.2). -/
def profileBytes : Nat := 329
/-- Bytes of the image header (section 9.2). -/
def headerBytes : Nat := 6
/-- The most request bytes the port acknowledges (R164). -/
def requestMax : Nat := 8
/-- The port's address before the address straps are added (R150). -/
def portBase : BitVec 7 := 0x3A#7

/-- FREE VALUE (log 3). When one void frame end both enters backoff and withdraws channels, R143
says that either block's records may be taken first. `true`: the BACKOFF record is first. -/
opaque backoffRecordFirst : Nat → Bool

/-- FREE VALUE (log 3). When entry to LINE_STUCK abandons a frame with contention, R143 says that
either the STUCK record or the CONTEST records may be taken first. `true`: STUCK is first. -/
opaque stuckRecordFirst : Nat → Bool

/-- FREE VALUE (log 4). The source level of a DISABLED channel whose source kind and index name no
source (R154 checks them only in enabled channels, R60 computes the level of every channel). -/
opaque unnamedSource : BitVec 3 → BitVec 4 → Level

/-- FREE VALUE (log 28). The level on MDO, by the number of MCK cycles since the read opened, once the
command and address bytes have been sent: R151 has MDO driven until the read ends and gives no level. -/
opaque mdoWhileTaking : Nat → PinLevel

end Sys2Proof.Config
end

