-- ==== Sys2Proof/Syntax.lean ====
section
/-! DEFINITION. The commands of the block: one constructor of `Instr` for each row of
spec/opcode_table.json, with the data the event brings with it. Constructors say what arrives;
meaning is in Machine/ alone. -/

namespace Sys2Proof

/-- A write transaction on the host port's bus that holds at least its code byte: the 7-bit address that
the host sends, which may be another target's or the general call address (R163), and the bytes received
AFTER the code byte: the tag, then the operands (R164); `[]` is a write of the code byte alone. -/
structure PortWrite where
  dst : BitVec 7
  rest : List Byte
deriving DecidableEq, Repr

/-- A read transaction on the host port's bus: the 7-bit address that the host sends (R163), and the number
of bytes that are read before the host ends it (R165). -/
structure PortRead where
  dst : BitVec 7
  bytes : Nat
deriving DecidableEq, Repr

/-- An event that may be taken BETWEEN two deliveries of one frame (R49): every event of the table
that can reach a station in ACTIVE or OBSERVER, other than a further frame end. `request` is the
host port write that the request rows stand for, byte for byte. -/
inductive MidEvent where
  | powerOnReset
  | pinReset
  | fallingEdge
  | startPatternEnd (run : Nat) (cell : Sample)
  | gapComplete
  | frameStart
  | refreshTimerExpiry
  | backoffTimerExpiry
  | stuckTimerExpiry
  | recoveryTimerExpiry
  | pinChange (i : Fin 12) (level : PinLevel)
  | filterTimerExpiry (i : Fin 12)
  | hostPowerPinChange (pin : HostPin) (level : PinLevel)
  | hostPowerFilterExpiry (pin : HostPin)
  | windowTimerExpiry (p : Fin 8)
  | holdTimerExpiry (p : Fin 8)
  | quietTimerExpiry (p : Fin 8)
  | blinkPhaseCrossing (phase : Fin 2000)
  | request (code : Byte) (w : PortWrite) (stn : BitVec 4) (addr : BitVec 2)
  | responseRead (r : PortRead)
  | cellSampled (x : Sample)
deriving DecidableEq, Repr

/-- The commands: the rows of spec/opcode_table.json, in the table's words.

* `resetEnd` and `restart` bring the levels standing on the strap pins, STN3–STN0 and ADDR1–ADDR0,
  at that moment (R150, R163).
* `startPatternEnd` brings the length of the start pattern's DRIVEN run, in tenths of this
  station's cell time, and the sample of the FREE cell (R4).
* `frameEnd` brings the sample of the CHECK cell (R11), and the events taken between the deliveries
  of the frame (R49): the k-th list is taken just before the k-th delivery; `[]` is none.
* a host port request brings its write transaction, and UNKNOWN_REQUEST the code byte too.
* `responseRead` brings its read transaction.
* `blinkPhaseCrossing` brings the blink phase that has been reached (R134). -/
inductive Instr where
  | powerOnReset
  | pinReset
  | resetEnd (stn : BitVec 4) (addr : BitVec 2)
  | imageByteTaken (b : Byte)
  | fallingEdge
  | startPatternEnd (run : Nat) (cell : Sample)
  | frameEnd (check : Sample) (between : List (List MidEvent))
  | gapComplete
  | frameStart
  | refreshTimerExpiry
  | censusWaitExpiry
  | backoffTimerExpiry
  | stuckTimerExpiry
  | recoveryTimerExpiry
  | pinChange (i : Fin 12) (level : PinLevel)
  | filterTimerExpiry (i : Fin 12)
  | hostPowerPinChange (pin : HostPin) (level : PinLevel)
  | hostPowerFilterExpiry (pin : HostPin)
  | windowTimerExpiry (p : Fin 8)
  | holdTimerExpiry (p : Fin 8)
  | quietTimerExpiry (p : Fin 8)
  | blinkPhaseCrossing (phase : Fin 2000)
  | getStatus (w : PortWrite)
  | getSlots (w : PortWrite)
  | getChannels (w : PortWrite)
  | getPatterns (w : PortWrite)
  | readJournal (w : PortWrite)
  | ackSlots (w : PortWrite)
  | ackConditions (w : PortWrite)
  | ackPatterns (w : PortWrite)
  | setSoft (w : PortWrite)
  | pulseSoft (w : PortWrite)
  | restart (w : PortWrite) (stn : BitVec 4) (addr : BitVec 2)
  | unknownRequest (code : Byte) (w : PortWrite)
  | responseRead (r : PortRead)
  | cellSampled (x : Sample)
deriving DecidableEq, Repr

/-- The request codes of section 11.3. -/
inductive RequestCode where
  | getStatus
  | getSlots
  | getChannels
  | getPatterns
  | readJournal
  | ackSlots
  | ackConditions
  | ackPatterns
  | setSoft
  | pulseSoft
  | restart
deriving DecidableEq, Repr

end Sys2Proof
end

