-- ==== Sys2Proof/Decode.lean ====
section
/-! DEFINITION. The words of the opcode table, and the code byte of a request. The block has no
instruction words: no row of spec/opcode_table.json gives bits (every row has an empty list of fields
and no fixed bits), since the commands are events at pins, on the line and on buses. The requests among
them are byte strings, which the host port decodes in Machine/Port.lean. -/

namespace Sys2Proof

/-- The request a code byte names; none for every other byte (R178). -/
def RequestCode.ofByte (b : Byte) : Option RequestCode :=
  if b = 0x01#8 then some .getStatus
  else if b = 0x02#8 then some .getSlots
  else if b = 0x03#8 then some .getChannels
  else if b = 0x04#8 then some .getPatterns
  else if b = 0x05#8 then some .readJournal
  else if b = 0x10#8 then some .ackSlots
  else if b = 0x11#8 then some .ackConditions
  else if b = 0x12#8 then some .ackPatterns
  else if b = 0x20#8 then some .setSoft
  else if b = 0x21#8 then some .pulseSoft
  else if b = 0x30#8 then some .restart
  else none

/-- The command that a word of `nbits` bits spells by the table's bits: none, since the table gives
no row any bits. -/
def decodeTableWord (_nbits _w : Nat) : Option Instr := none

end Sys2Proof
end

