-- ==== Sys2Proof/Machine/Profile.lean ====
section
/-! DEFINITION. The profile: one station's configuration as plain data (sections 9.2 and 11.2), and
the built-in fallback profile (R157). How a profile is read from image bytes is in Image.lean. -/

namespace Sys2Proof.Machine

open Sys2Proof

/-- Host power state (section 5.4). -/
inductive HostPower where
  | run
  | sleep
  | off
deriving DecidableEq, Repr

/-- Latch kind of a slot (section 3.1). -/
inductive LatchKind where
  | none
  | rise
  | fall
  | both
  | level
deriving DecidableEq, Repr

/-- Slot settings (section 3.1). -/
structure SlotCfg where
  kind : LatchKind
  attn : Bool
  wake : Bool
  journal : Bool
deriving DecidableEq, Repr

/-- The source a channel names (R61). `unnamed` keeps the kind and index codes of a DISABLED channel
whose codes name no source (R154 does not check them). -/
inductive Source where
  | input (i : Fin 12)
  | soft (k : Fin 4)
  | pattern (p : Fin 8)
  | conditions
  | unnamed (kind : BitVec 3) (index : BitVec 4)
deriving DecidableEq, Repr

/-- Channel settings (section 4.1). -/
structure ChanCfg where
  enable : Bool
  slot : Fin 48
  source : Source
  invert : Bool
deriving DecidableEq, Repr

/-- Input polarity, and indicator polarity (sections 5.1 and 7.4). -/
inductive Polarity where
  | activeHigh
  | activeLow
deriving DecidableEq, Repr

/-- Power domain of an input (section 5.1). -/
inductive Domain where
  | standby
  | main
deriving DecidableEq, Repr

/-- Input mode (section 5.3). -/
inductive Mode where
  | follow
  | toggle
  | oneshot
deriving DecidableEq, Repr

/-- Input settings (section 5.1); `filterMs` is 0, 1, 4, 16 or 64. -/
structure InputCfg where
  polarity : Polarity
  domain : Domain
  filterMs : Nat
  mode : Mode
deriving DecidableEq, Repr

/-- A pattern step, with the fields its kind reads (section 6.1): a window in units of 10 ms, 0 for
unlimited, and a hold or quiet time in units of 10 ms. -/
inductive Step where
  | rise (slot : Fin 48) (window : Nat)
  | fall (slot : Fin 48) (window : Nat)
  | anyRise (window : Nat)
  | hold (slot : Fin 48) (window : Nat) (time : Nat)
  | quiet (time : Nat)
deriving DecidableEq, Repr

/-- What a match does to the output level (R110). -/
inductive Action where
  | none
  | pulse
  | toggle
  | set
deriving DecidableEq, Repr

/-- Pattern settings (section 6.1). `steps` holds the steps below the step count, which is its
length; a pattern without steps is disabled (R92). -/
structure PatCfg where
  strict : Bool
  action : Action
  attn : Bool
  wake : Bool
  journal : Bool
  steps : List Step
deriving DecidableEq, Repr

/-- Condition of an indicator rule (R131). -/
inductive Cond where
  | none
  | slotAsserted (s : Fin 48)
  | latch (s : Fin 48)
  | matched (p : Fin 8)
  | condition (c : Fin 7)
  | host (h : HostPower)
  | always
deriving DecidableEq, Repr

/-- Display of an indicator rule (section 7.4). -/
inductive Display where
  | off
  | on
  | slow
  | medium
  | fast
  | flash
deriving DecidableEq, Repr

/-- Indicator rule entry (section 7.4). -/
structure Rule where
  cond : Cond
  display : Display
deriving DecidableEq, Repr

/-- One station's configuration (section 11.2). Refresh interval in units of 10 ms, quiet interval in
milliseconds. -/
structure Profile where
  refresh : Nat
  quiet : Nat
  attnMask : Vector Bool 7
  wakeMask : Vector Bool 7
  indPolarity : Vector Polarity 2
  slots : Vector SlotCfg 48
  chans : Vector ChanCfg 16
  inputs : Vector InputCfg 12
  patterns : Vector PatCfg 8
  rules : Vector (Vector Rule 6) 2
deriving DecidableEq, Repr

/-- The fallback profile (R157). R157 gives a pattern its step count 0 alone, and an unused rule entry
NONE alone: the mode STRICT, the action NONE and the flags off of the patterns, and the display OFF of
the NONE entries, are a DESIGN CHOICE (log 26). -/
def fallbackProfile : Profile where
  refresh := 0
  quiet := 20
  attnMask := tab fun c => c = 6
  wakeMask := tab fun _ => false
  indPolarity := tab fun _ => .activeHigh
  slots := tab fun _ => { kind := .none, attn := false, wake := false, journal := false }
  chans := tab fun _ => { enable := false, slot := 0, source := .input 0, invert := false }
  inputs := tab fun _ =>
    { polarity := .activeHigh, domain := .standby, filterMs := 16, mode := .follow }
  patterns := tab fun _ =>
    { strict := true, action := .none, attn := false, wake := false, journal := false, steps := [] }
  rules := tab fun n => tab fun e =>
    if n = 0 ∧ e = 0 then { cond := .condition 6, display := .fast }
    else { cond := .none, display := .off }

end Sys2Proof.Machine
end

