-- ==== Sys2Proof/Machine/State.lean ====
section
/-! DEFINITION. The state of one station, block by block, as plain data; the reasons a command can
stop; the state after reset. Outputs that the manual defines as functions of other state (TRANSMIT,
the summaries, ATTN, WAKE, the indicators, the host power state) are computed in Flags.lean. -/

namespace Sys2Proof.Machine

open Sys2Proof

/-- Station state (R23, chapter 9). -/
inductive Station where
  | reset
  | loading
  | listen
  | active
  | observer
deriving DecidableEq, Repr

/-- Reset cause (section 9.1). -/
inductive ResetCause where
  | power
  | pin
  | request
deriving DecidableEq, Repr

/-- Line state (section 1.2). -/
inductive LineState where
  | idle
  | frame
  | gap
  | stuck
deriving DecidableEq, Repr

/-- Image status (section 9.2). -/
inductive ImageStatus where
  | ok
  | fault
deriving DecidableEq, Repr

/-- Fault reason of the loader (section 9.2). -/
inductive FaultReason where
  | none
  | badMarker
  | badVersion
  | badCount
  | noProfile
  | badSum
  | badProfile
deriving DecidableEq, Repr

/-- Loader phase (section 9.2). -/
inductive LoaderPhase where
  | idle
  | header
  | profiles
  | done
deriving DecidableEq, Repr

/-- The loader (section 9.2). `header` holds the header bytes taken so far, the two checksum bytes
among them (R152). `selected` and `sent` are its side of the serial memory port (R151): the memory
is selected by MCS low, and the bytes sent on MDO in the read transaction. -/
structure Loader where
  phase : LoaderPhase
  pos : Nat
  count : Nat
  sum : BitVec 16
  header : List Byte
  retained : List Byte
  status : ImageStatus
  reason : FaultReason
  selected : Bool
  sent : List Byte
deriving DecidableEq, Repr

/-- The line interface (section 1.2). `presence` and `level` are the receive record, `true` for
DRIVEN. `announceAtStart` and `censusAtStart` say whether the flag was set when the frame in
progress began (R16). `startDrive` counts the start pattern cells that this station still drives
(R5). TRANSMIT is not held here: it is a condition of the transmit side (R15, `transmit`). -/
structure Lif where
  line : LineState
  gapCount : Nat
  gapLen : Nat
  pos : Nat
  fault : Bool
  contention : Vector Bool 48
  presence : Vector Bool 48
  level : Vector Bool 48
  refresh : Bool
  announce : Bool
  census : Bool
  announceAtStart : Bool
  censusAtStart : Bool
  refreshTimer : Timer
  voidCount : Nat
  backoff : Bool
  backoffTimer : Timer
  stuckTimer : Timer
  recoveryTimer : Timer
  validCount : BitVec 16
  startDrive : Nat
deriving DecidableEq, Repr

/-- The ownership controller (section 2.1). -/
structure Owner where
  progress : Nat
  seen : Vector Bool 48
  waitTimer : Timer
  imageFault : Bool
deriving DecidableEq, Repr

/-- Ownership of a slot (section 3.1). -/
inductive Ownership where
  | unowned
  | remote
  | localOwned
deriving DecidableEq, Repr

/-- Slot entry (section 3.1): the fields that are not the profile's. -/
structure SlotEntry where
  own : Ownership
  level : Level
  latch : Bool
deriving DecidableEq, Repr

/-- Ownership state of a channel (section 2.2). -/
inductive ChanState where
  | unused
  | claiming
  | owned
  | conflict
  | withdrawn
deriving DecidableEq, Repr

/-- Channel record (section 4.1): the fields that are not the profile's. `pending` is head first. -/
structure Channel where
  state : ChanState
  level : Level
  sent : Level
  pending : List Level
  inFlight : Bool
deriving DecidableEq, Repr

/-- Raw sample of an input (section 5.1). -/
inductive RawSample where
  | notSampled
  | inactive
  | active
deriving DecidableEq, Repr

/-- Input record (section 5.1): the fields that are not the profile's. -/
structure InputRec where
  raw : RawSample
  timer : Timer
  filtered : Level
  output : Level
deriving DecidableEq, Repr

/-- Host power decoder (section 5.4): filtered levels and filter timers of HPON and HPAWAKE. The host
power state is decoded from the two levels (`hostPower`). -/
structure HostDecoder where
  hpon : PinLevel
  hpawake : PinLevel
  hponTimer : Timer
  hpawakeTimer : Timer
deriving DecidableEq, Repr

/-- Hold/quiet timer of a pattern (section 6.1). -/
inductive HoldQuiet where
  | stopped
  | hold (ms : Nat)
  | quiet (ms : Nat)
deriving DecidableEq, Repr

/-- Pattern record (section 6.1): the fields that are not the profile's. -/
structure PatRec where
  progress : Nat
  window : Timer
  timer : HoldQuiet
  latch : Bool
  output : Level
deriving DecidableEq, Repr

/-- The blink phase (section 7.4). -/
structure Blink where
  running : Bool
  phase : Fin 2000
deriving DecidableEq, Repr

/-- Cause of a transition, and of a SLOT record (R45). -/
inductive SlotCause where
  | frame
  | ownerLost
deriving DecidableEq, Repr

/-- Cause of a LINE record (section 8.2). -/
inductive LineCause where
  | stuck
  | clear
  | backoff
deriving DecidableEq, Repr

/-- Cause of a CLAIM record (section 8.2). -/
inductive ClaimCause where
  | conflict
  | contest
deriving DecidableEq, Repr

/-- Kind, subject, level, cause and frame stamp of a journal record, as the generating block hands
them to the journal (section 8.2). -/
inductive RecordBody where
  | start (cause : ResetCause) (status : ImageStatus)
  | slot (s : Fin 48) (level : Level) (cause : SlotCause) (stamp : BitVec 16)
  | matched (p : Fin 8) (stamp : Option (BitVec 16))
  | line (cause : LineCause)
  | claim (s : Fin 48) (cause : ClaimCause)
deriving DecidableEq, Repr

/-- A stored journal record (R138). `lost` is present only when it is not 0. -/
structure Record where
  seq : BitVec 16
  body : RecordBody
  lost : Option (BitVec 16)
deriving DecidableEq, Repr

/-- The change journal (section 8.1), oldest record first. -/
structure Journal where
  records : List Record
  seq : BitVec 16
  lost : BitVec 16
  handed : Nat
deriving DecidableEq, Repr

/-- State of the response buffer (section 10.2). -/
inductive BufferState where
  | empty
  | ready
  | read
deriving DecidableEq, Repr

/-- Result of a response (section 10.2). -/
inductive Result where
  | ok
  | badRequest
  | badOperand
  | badLength
  | notReady
  | none
deriving DecidableEq, Repr

/-- A response (R165, section 11.4), as built. -/
structure Response where
  tag : Byte
  result : Result
  replacedUnread : Bool
  carriesRecords : Bool
  data : List Byte
deriving DecidableEq, Repr

/-- A bit of a transaction on the port's bus, by what the port may do in it (R163 to R165): the
acknowledge bit after the address `dst`, the acknowledge bit of byte `n` of a write to it, data bit `i`
of byte `n` of a read from it (bytes from 0), or a bit that is the host's to drive, and the bus between
transactions. -/
inductive BusBit where
  | hosts
  | addressAck (dst : BitVec 7)
  | writeAck (dst : BitVec 7) (n : Nat)
  | readData (dst : BitVec 7) (n : Nat) (i : Fin 8)
deriving DecidableEq, Repr

/-- The host port (section 10.2). `sent` holds the bytes of the last read transaction as the port
sent them, and `acked` the bytes of the last write that it acknowledged, of the transactions addressed
to this port (R163 to R165): what the port last did on SDA. DESIGN CHOICE (log 19). -/
structure Port where
  buffer : BufferState
  response : Option Response
  handOver : Bool
  sent : List Byte
  acked : Nat
deriving DecidableEq, Repr

/-- The levels standing at the station's input pins and on its supply, and the last level reported of
the event line: the outside world's side of the pins (chapter 0, "Signal summary").
DESIGN CHOICE (log 12). -/
structure Pins where
  supplyGood : Bool
  resetN : PinLevel
  evl : Sample
  inputs : Vector PinLevel 12
  hpon : PinLevel
  hpawake : PinLevel
  stn : BitVec 4
  addr : BitVec 2
deriving DecidableEq, Repr

/-- The state of one station. -/
structure State where
  /-- station state (R23) -/
  station : Station
  /-- reset cause (section 9.1) -/
  cause : ResetCause
  /-- station code sampled from STN3–STN0 (R150) -/
  stationCode : BitVec 4
  /-- address straps ADDR1–ADDR0 as sampled (R150) -/
  addrCode : BitVec 2
  /-- the profile in force (R158) -/
  profile : Profile
  /-- loader and serial memory port (section 9.2) -/
  loader : Loader
  /-- line interface (section 1.2) -/
  lif : Lif
  /-- ownership controller (section 2.1) -/
  owner : Owner
  /-- slot table (section 3.1) -/
  slots : Vector SlotEntry 48
  /-- channel records (section 4.1) -/
  chans : Vector Channel 16
  /-- soft sources (section 4.6) -/
  soft : Vector Level 4
  /-- input records (section 5.1) -/
  inputs : Vector InputRec 12
  /-- host power decoder (section 5.4) -/
  host : HostDecoder
  /-- pattern records (section 6.1) -/
  patterns : Vector PatRec 8
  /-- condition latches 0 to 6 (section 7.1) -/
  conds : Vector Bool 7
  /-- blink phase (section 7.4) -/
  blink : Blink
  /-- change journal (section 8.1) -/
  journal : Journal
  /-- host port (section 10.2) -/
  port : Port
  /-- pins as the outside holds them (chapter 0) -/
  pins : Pins
  /-- the MODEL's own counter for free values (log 3) -/
  freeIndex : Nat
  /-- the MODEL's queue of commands that are waiting, first in, first out -/
  pending : List Instr
deriving DecidableEq, Repr

/-- Reasons for the machine to stop with a fault: none. The manual gives the station no event after
which it stops, and no event whose effect is undefined, so this type has no constructor.
DEDUCED (log 20). -/
inductive Fault where
deriving DecidableEq, Repr

/-- Reasons for a command to have no meaning. -/
inductive Refusal where
  /-- Raised by no meaning: kept for an arm of `exec` that has no meaning yet. Safe. -/
  | notModelled (mnemonic : String)
  /-- Raised by `execUnknownRequest` on an UNKNOWN_REQUEST whose code byte does name a request
  (R178): a term that stands for no event of its row. Safe: the write it would be is the command of
  the request it names. -/
  | illFormed
deriving DecidableEq, Repr

/-- The line interface's Default column (section 1.2). -/
def Lif.default : Lif where
  line := .idle
  gapCount := 0
  gapLen := 104
  pos := 0
  fault := false
  contention := tab fun _ => false
  presence := tab fun _ => false
  level := tab fun _ => false
  refresh := false
  announce := false
  census := false
  announceAtStart := false
  censusAtStart := false
  refreshTimer := .stopped
  voidCount := 0
  backoff := false
  backoffTimer := .stopped
  stuckTimer := .stopped
  recoveryTimer := .stopped
  validCount := 0
  startDrive := 0

/-- The loader's Default column (section 9.2, R161). -/
def Loader.default : Loader where
  phase := .idle
  pos := 0
  count := 0
  sum := 0
  header := []
  retained := []
  status := .fault
  reason := .none
  selected := false
  sent := []

/-- The state right after power-on: RESET with cause POWER, every block at its reset values (R148).
The profile, the strap values and the levels at the pins have no reset value in the manual; log 1
names what stands here. DESIGN CHOICE (log 1). -/
def State.reset : State where
  station := .reset
  cause := .power
  stationCode := 0
  addrCode := 0
  profile := fallbackProfile
  loader := Loader.default
  lif := Lif.default
  owner := { progress := 0, seen := tab fun _ => false, waitTimer := .stopped, imageFault := false }
  slots := tab fun _ => { own := .unowned, level := .released, latch := false }
  chans := tab fun _ =>
    { state := .unused, level := .released, sent := .released, pending := [], inFlight := false }
  soft := tab fun _ => .released
  inputs := tab fun _ =>
    { raw := .notSampled, timer := .stopped, filtered := .released, output := .released }
  host := { hpon := .low, hpawake := .low, hponTimer := .stopped, hpawakeTimer := .stopped }
  patterns := tab fun _ =>
    { progress := 0, window := .stopped, timer := .stopped, latch := false, output := .released }
  conds := tab fun _ => false
  blink := { running := false, phase := 0 }
  journal := { records := [], seq := 0, lost := 0, handed := 0 }
  port := { buffer := .empty, response := none, handOver := false, sent := [], acked := 0 }
  pins :=
    { supplyGood := false, resetN := .high, evl := .free, inputs := tab fun _ => .low,
      hpon := .low, hpawake := .low, stn := 0, addr := 0 }
  freeIndex := 0
  pending := []

/-! One update per field; its lemmas are in Laws/State.lean. -/

/-- Replace `station`. -/
def State.setStation (s : State) (x : Station) : State := { s with station := x }
/-- Replace `cause`. -/
def State.setCause (s : State) (x : ResetCause) : State := { s with cause := x }
/-- Replace `stationCode`. -/
def State.setStationCode (s : State) (x : BitVec 4) : State := { s with stationCode := x }
/-- Replace `addrCode`. -/
def State.setAddrCode (s : State) (x : BitVec 2) : State := { s with addrCode := x }
/-- Replace `profile`. -/
def State.setProfile (s : State) (x : Profile) : State := { s with profile := x }
/-- Replace `loader`. -/
def State.setLoader (s : State) (x : Loader) : State := { s with loader := x }
/-- Replace `lif`. -/
def State.setLif (s : State) (x : Lif) : State := { s with lif := x }
/-- Replace `owner`. -/
def State.setOwner (s : State) (x : Owner) : State := { s with owner := x }
/-- Replace `slots`. -/
def State.setSlots (s : State) (x : Vector SlotEntry 48) : State := { s with slots := x }
/-- Replace `chans`. -/
def State.setChans (s : State) (x : Vector Channel 16) : State := { s with chans := x }
/-- Replace `soft`. -/
def State.setSoft (s : State) (x : Vector Level 4) : State := { s with soft := x }
/-- Replace `inputs`. -/
def State.setInputs (s : State) (x : Vector InputRec 12) : State := { s with inputs := x }
/-- Replace `host`. -/
def State.setHost (s : State) (x : HostDecoder) : State := { s with host := x }
/-- Replace `patterns`. -/
def State.setPatterns (s : State) (x : Vector PatRec 8) : State := { s with patterns := x }
/-- Replace `conds`. -/
def State.setConds (s : State) (x : Vector Bool 7) : State := { s with conds := x }
/-- Replace `blink`. -/
def State.setBlink (s : State) (x : Blink) : State := { s with blink := x }
/-- Replace `journal`. -/
def State.setJournal (s : State) (x : Journal) : State := { s with journal := x }
/-- Replace `port`. -/
def State.setPort (s : State) (x : Port) : State := { s with port := x }
/-- Replace `pins`. -/
def State.setPins (s : State) (x : Pins) : State := { s with pins := x }
/-- Replace `freeIndex`. -/
def State.setFreeIndex (s : State) (x : Nat) : State := { s with freeIndex := x }
/-- Replace `pending`. -/
def State.setPending (s : State) (x : List Instr) : State := { s with pending := x }

end Sys2Proof.Machine
end

