-- ==== Sys2Proof/Machine/Flags.lean ====
section
/-! DEFINITION. Everything the manual defines as a function of other state (DEDUCED, log 18):
TRANSMIT, the group, attention and wake summaries, ATTN, WAKE, the indicators, the host power state,
the station's drive of the event line, the port's address. Each follows the state it reads at once, so
it is computed and not stored. -/

namespace Sys2Proof.Machine

open Sys2Proof

/-- The station is on the line: LISTEN, ACTIVE or OBSERVER (section 2.1). -/
def Station.onLine : Station → Bool
  | .listen | .active | .observer => true
  | .reset | .loading => false

/-- The station delivers transitions and runs its patterns: ACTIVE or OBSERVER (R46, R96). -/
def Station.delivers : Station → Bool
  | .active | .observer => true
  | .reset | .loading | .listen => false

/-- Host power state from the filtered levels of HPON and HPAWAKE (section 5.4). -/
def decodeHost (hpon hpawake : PinLevel) : HostPower :=
  match hpon, hpawake with
  | .high, .high => .run
  | .high, .low => .sleep
  | .low, _ => .off

/-- The host power state (R85); the decoder's levels are low in RESET, which decodes to OFF. -/
def hostPower (s : State) : HostPower := decodeHost s.host.hpon s.host.hpawake

/-- A raw sample from a pin level by the polarity (section 5.2). -/
def rawOf (p : Polarity) (l : PinLevel) : RawSample :=
  match p, l with
  | .activeHigh, .high => .active
  | .activeHigh, .low => .inactive
  | .activeLow, .high => .inactive
  | .activeLow, .low => .active

/-- The filtered level a raw sample stands for (R79). -/
def RawSample.level : RawSample → Level
  | .active => .asserted
  | .inactive => .released
  | .notSampled => .released

/-- Input `i` is read: the station has left LOADING, and the input is STANDBY or the host is not OFF
(R78, R87, R90). -/
def inputRead (s : State) (i : Fin 12) : Bool :=
  s.station.onLine
    && ((s.profile.inputs.get i).domain == .standby || !(hostPower s == .off))

/-- At least one condition latch is set. -/
def anyCond (s : State) : Bool := (List.finRange 7).any fun c => s.conds.get c

/-- The level of a source (R61). DESIGN CHOICE for an unnamed source (log 4). -/
def sourceLevel (s : State) : Source → Level
  | .input i => (s.inputs.get i).output
  | .soft k => s.soft.get k
  | .pattern p => (s.patterns.get p).output
  | .conditions => if anyCond s then .asserted else .released
  | .unnamed kind index => Config.unnamedSource kind index

/-- The level a channel presents: its source level through its invert flag (R60). -/
def effectiveLevel (s : State) (c : Fin 16) : Level :=
  (sourceLevel s (s.profile.chans.get c).source).through (s.profile.chans.get c).invert

/-- A channel's target: the last pending level, or the sent level (section 4.3). -/
def target (sent : Level) (pending : List Level) : Level := pending.getLast?.getD sent

/-- The pending list after a channel change to `v` (R62). -/
def pendingAfter (sent : Level) (pending : List Level) (v : Level) : List Level :=
  if v = target sent pending then pending
  else
    match pending with
    | [] => [v]
    | [head] => [head, v]
    | head :: _ :: _ => [head]

/-- TRANSMIT: an OWNED channel has a pending list that is not empty (R15). -/
def transmit (s : State) : Bool :=
  (List.finRange 16).any fun c =>
    (s.chans.get c).state == .owned && !(s.chans.get c).pending.isEmpty

/-- At least one channel is OWNED (R29). -/
def anyOwned (s : State) : Bool :=
  (List.finRange 16).any fun c => (s.chans.get c).state == .owned

/-- Slot `k` is bound to an OWNED channel of this station (R43). -/
def ownedSlot (s : State) (k : Fin 48) : Bool :=
  (List.finRange 16).any fun c =>
    (s.chans.get c).state == .owned && (s.profile.chans.get c).slot == k

/-- The level a channel's frame carries: the head in flight, or the sent level (R6, R65). No change
of the list during the frame moves it, since the head in flight is never removed. -/
def Channel.snapshot (ch : Channel) : Level :=
  if ch.inFlight then ch.pending.head?.getD ch.sent else ch.sent

/-- The level this station carries for slot `k` in the frame on the line. -/
def slotSnapshot (s : State) (k : Fin 48) : Level :=
  match (List.finRange 16).find? fun c =>
      (s.chans.get c).state == .owned && (s.profile.chans.get c).slot == k with
  | some c => (s.chans.get c).snapshot
  | none => .released

/-- A cell of the frame, by its position (section 11.1). -/
inductive Cell where
  | start
  | presence (s : Fin 48)
  | level (s : Fin 48)
  | check
deriving DecidableEq, Repr

/-- The cell at a position: 0 to 4 the start pattern, 5 + 2s and 6 + 2s the pair of slot s, 101 the
CHECK cell (section 11.1). -/
def cellAt (pos : Nat) : Cell :=
  if pos < Config.firstSlotCell then .start
  else if h : (pos - Config.firstSlotCell) / 2 < 48 then
    if (pos - Config.firstSlotCell) % 2 = 0 then .presence ⟨(pos - Config.firstSlotCell) / 2, h⟩
    else .level ⟨(pos - Config.firstSlotCell) / 2, h⟩
  else .check

/-- This station drives the cell (R7, R11): presence and level cells of its LOCAL slots and the CHECK
cell, each in ACTIVE only. -/
def drivesCell (s : State) : Cell → Bool
  | .start => false
  | .presence k => s.station == .active && (s.slots.get k).own == .localOwned
  | .level k =>
    s.station == .active && (s.slots.get k).own == .localOwned && slotSnapshot s k == .asserted
  | .check => s.station == .active && s.lif.fault

/-- This station holds EVL DRIVEN now: in the start pattern it drives, or in a cell of the frame in
progress that it drives (R5, R7). DESIGN CHOICE (log 24). -/
def drivesLine (s : State) : Bool :=
  decide (0 < s.lif.startDrive)
    || (s.lif.line == .frame && drivesCell s (cellAt s.lif.pos))

/-- The conditions under which the station starts a frame (R5). -/
def mayStart (s : State) : Bool :=
  s.lif.line == .idle && !s.lif.backoff
    && ((s.station == .active && (transmit s || s.lif.refresh || s.lif.announce))
      || (s.station == .listen && s.lif.census))

/-- The LINE_STUCK latch is held while the station is in LINE_STUCK (R119). -/
def stuckHeld (s : State) : Bool := s.lif.line == .stuck

/-- Group summary of group `g` (R57). -/
def groupSummary (s : State) (g : Fin 6) : Bool :=
  (List.finRange 48).any fun k => decide (k.val / 8 = g.val) && (s.slots.get k).latch

/-- Attention summary (R123). -/
def attentionSummary (s : State) : Bool :=
  ((List.finRange 48).any fun k => (s.slots.get k).latch && (s.profile.slots.get k).attn)
    || ((List.finRange 7).any fun c => s.conds.get c && s.profile.attnMask.get c)
    || ((List.finRange 8).any fun p => (s.patterns.get p).latch && (s.profile.patterns.get p).attn)

/-- Wake summary (R124). -/
def wakeSummary (s : State) : Bool :=
  ((List.finRange 48).any fun k => (s.slots.get k).latch && (s.profile.slots.get k).wake)
    || ((List.finRange 7).any fun c => s.conds.get c && s.profile.wakeMask.get c)
    || ((List.finRange 8).any fun p => (s.patterns.get p).latch && (s.profile.patterns.get p).wake)

/-- ATTN is asserted (R126, R128). -/
def attnAsserted (s : State) : Bool :=
  s.station.onLine && hostPower s == .run && attentionSummary s

/-- WAKE is asserted (R126, R128). -/
def wakeAsserted (s : State) : Bool :=
  s.station.onLine && !(hostPower s == .run) && wakeSummary s

/-- An open-drain, active-low output (section 7.3). -/
def openDrain (asserted : Bool) : PinDrive := if asserted then .low else .undriven

/-- The ATTN pin. -/
def attnPin (s : State) : PinDrive := openDrain (attnAsserted s)

/-- The WAKE pin. -/
def wakePin (s : State) : PinDrive := openDrain (wakeAsserted s)

/-- An indicator condition holds (R131). -/
def condHolds (s : State) : Cond → Bool
  | .none => false
  | .slotAsserted k => (s.slots.get k).level == .asserted
  | .latch k => (s.slots.get k).latch
  | .matched p => (s.patterns.get p).latch
  | .condition c => s.conds.get c
  | .host h => hostPower s == h
  | .always => true

/-- Selected display of indicator `n` (R130, R132): the first rule that holds, OFF if none does and
before the end of LOADING. -/
def selectedDisplay (s : State) (n : Fin 2) : Display :=
  if s.station.onLine then
    match (List.finRange 6).find? fun e => condHolds s ((s.profile.rules.get n).get e).cond with
    | some e => ((s.profile.rules.get n).get e).display
    | none => .off
  else .off

/-- The part of the blink cycle over which a display lights the lamp (R133). -/
def litAt (d : Display) (phase : Nat) : Bool :=
  match d with
  | .off => false
  | .on => true
  | .slow => decide (phase < 1000)
  | .medium => decide (phase % 1000 < 500)
  | .fast => decide (phase % 250 < 125)
  | .flash => decide (phase < 100)

/-- Indicator `n` is lit (R134). -/
def lit (s : State) (n : Fin 2) : Bool := litAt (selectedDisplay s n) s.blink.phase.val

/-- The pin of indicator `n`: undriven in RESET and LOADING, then at the lit or the other level of its
polarity (R130). -/
def indicatorPin (s : State) (n : Fin 2) : PinDrive :=
  if s.station.onLine then
    match s.profile.indPolarity.get n, lit s n with
    | .activeHigh, true => .high
    | .activeHigh, false => .low
    | .activeLow, true => .low
    | .activeLow, false => .high
  else .undriven

/-- The port's 7-bit address (R150, R163): 3Ah plus the address straps as the last end of RESET sampled
them. -/
def portAddress (s : State) : BitVec 7 := Config.portBase + s.addrCode.setWidth 7

/-- The port acknowledges the address `dst`, for a write or for a read (R163): its own, in every state but
RESET, and no other; the general call address, 0, is never its own. -/
def portAnswers (s : State) (dst : BitVec 7) : Bool := !(s.station == .reset) && dst == portAddress s

/-- A transaction that the host addresses to `dst` reaches the port only if the port acknowledges that
address; one addressed elsewhere is not seen and changes nothing (R163). The transaction is one command,
held against the address at its end: DESIGN CHOICE (log 19). -/
def addressed (dst : BitVec 7) (f : State → State) (s : State) : State :=
  if portAnswers s dst then f s else s

/-- The SCL pin: the port takes its clock from the host, and no rule has it hold the clock.
DEDUCED (log 27). -/
def sclPin (_s : State) : PinDrive := .undriven

/-- The loader's read transaction is open: in LOADING, from its opening to its end (R149, R151). -/
def readOpen (s : State) : Bool := s.station == .loading && s.loader.selected

/-- The MCS pin: low while the read transaction is open; otherwise not driven (R149, R151, R161). That it
is driven high for no time at the read's end is DEDUCED (log 28). -/
def mcsPin (s : State) : PinDrive := openDrain (readOpen s)

/-- The MCK pin in the low or the high half of a clock cycle: the port is the controller, so it drives the
clock while the read transaction is open, DEDUCED (log 28); otherwise it does not drive it (R149, R151,
R161). -/
def mckPin (s : State) (half : PinLevel) : PinDrive :=
  if readOpen s then half.drive else .undriven

/-- Bit `n` of the bytes sent, most significant bit of the first byte first (R151). -/
def Loader.sentBit (l : Loader) (n : Nat) : Bool := (l.sent.getD (n / 8) 0).getLsbD (7 - n % 8)

/-- The MDO pin in clock cycle `n` of the read transaction, from 0: the bits of the bytes sent, and then
a level that R151 does not give, DESIGN CHOICE (log 28); not driven while no read is open (R149, R151,
R161). -/
def mdoPin (s : State) (n : Nat) : PinDrive :=
  if readOpen s then
    (if n < 8 * s.loader.sent.length then
      (if s.loader.sentBit n then PinLevel.high else .low)
     else Config.mdoWhileTaking n).drive
  else .undriven

end Sys2Proof.Machine
end

