-- ==== Sys2Proof/Machine/Ops.lean ====
section
/-! DEFINITION. The operations that commands share: source changes reaching channels, setting and
clearing condition latches, generating journal records, and the resets. -/

namespace Sys2Proof.Machine

open Sys2Proof

/-! ### Channels and their sources -/

/-- A channel takes a new level of its own (R60, R62, R64): an OWNED channel acts on its pending
list, any other channel follows in its channel level alone. -/
def Channel.take (ch : Channel) (v : Level) : Channel :=
  if v = ch.level then ch
  else
    { ch with
      level := v
      pending := if ch.state = .owned then pendingAfter ch.sent ch.pending v else ch.pending }

/-- A source now stands at level `v`: every channel that names it takes the change (R60). -/
def sourceChange (src : Source) (v : Level) (s : State) : State :=
  s.setChans <| tab fun c =>
    if (s.profile.chans.get c).source = src then
      (s.chans.get c).take (v.through (s.profile.chans.get c).invert)
    else s.chans.get c

/-- Soft source `k` takes level `v`; a source change if that is a new level (R72). -/
def setSoftLevel (k : Fin 4) (v : Level) (s : State) : State :=
  if s.soft.get k = v then s
  else sourceChange (.soft k) v (s.setSoft (put s.soft k v))

/-- The mode output of input `i` takes level `v` (R84). -/
def setInputOutput (i : Fin 12) (v : Level) (s : State) : State :=
  if (s.inputs.get i).output = v then s
  else
    sourceChange (.input i) v
      (s.setInputs (put s.inputs i { s.inputs.get i with output := v }))

/-- The output of pattern `p` takes level `v` (R75, R110). -/
def setPatternOutput (p : Fin 8) (v : Level) (s : State) : State :=
  if (s.patterns.get p).output = v then s
  else
    sourceChange (.pattern p) v
      (s.setPatterns (put s.patterns p { s.patterns.get p with output := v }))

/-! ### Condition latches (section 7.1) -/

/-- LINE_STUCK, latch 0. -/
def condLineStuck : Fin 7 := 0
/-- BACKOFF, latch 1. -/
def condBackoff : Fin 7 := 1
/-- CONTEST, latch 2. -/
def condContest : Fin 7 := 2
/-- CONFLICT, latch 3. -/
def condConflict : Fin 7 := 3
/-- OWNER_LOST, latch 4. -/
def condOwnerLost : Fin 7 := 4
/-- JOURNAL_LOST, latch 5. -/
def condJournalLost : Fin 7 := 5
/-- IMAGE_FAULT, latch 6. -/
def condImageFault : Fin 7 := 6

/-- A setter reaches condition latch `c` (R118): the first latch set moves the CONDITIONS source to
ASSERTED (R74); a latch already SET is no change. -/
def setCond (c : Fin 7) (s : State) : State :=
  if s.conds.get c then s
  else if anyCond s then s.setConds (put s.conds c true)
  else sourceChange .conditions .asserted (s.setConds (put s.conds c true))

/-- The latches named in `mask` are cleared, all but a held LINE_STUCK (R120): the last latch cleared
moves the CONDITIONS source to RELEASED (R74). -/
def clearConds (mask : Vector Bool 7) (s : State) : State :=
  let s' := s.setConds <| tab fun c =>
    s.conds.get c && (!mask.get c || (decide (c = condLineStuck) && stuckHeld s))
  if anyCond s && !anyCond s' then sourceChange .conditions .released s' else s'

/-! ### The change journal (sections 8.1 to 8.3) -/

/-- A block hands the journal a record (R139 to R141): it takes the next sequence number, and is
stored at the tail with the lost count, or counted lost when 32 records are held. -/
def generate (body : RecordBody) (s : State) : State :=
  let j := s.journal
  if j.records.length < Config.journalMax then
    s.setJournal
      { j with
        records := j.records ++
          [{ seq := j.seq, body := body, lost := if j.lost = 0 then none else some j.lost }]
        seq := j.seq + 1
        lost := 0 }
  else
    setCond condJournalLost (s.setJournal { j with seq := j.seq + 1, lost := j.lost + 1 })

/-- An outstanding hand-over ends without removal (R146): the records are unmarked and the response
buffer carries no hand-over any more. -/
def endHandOver (s : State) : State :=
  (s.setJournal { s.journal with handed := 0 }).setPort { s.port with handOver := false }

/-! ### Resets (section 9.1) -/

/-- Any reset (R148): RESET with the given cause, every block at its reset values. The levels at the
pins are the outside world's, and the queue and the free-value counter the model's. -/
def enterReset (cause : ResetCause) (s : State) : State :=
  { State.reset with
    cause := cause, pins := s.pins, freeIndex := s.freeIndex, pending := s.pending }

/-- The end of RESET (R150): LOADING is entered, the straps are sampled, HPON and HPAWAKE are read
once without filtering (R85), and the loader opens its read at image address 0 (R151).
DESIGN CHOICE (log 11); and (log 12) a host-power pin that cannot be resolved then is read at its last
resolved level. -/
def leaveReset (stn : BitVec 4) (addr : BitVec 2) (s : State) : State :=
  { s with
    station := .loading
    stationCode := stn
    addrCode := addr
    pins := { s.pins with supplyGood := true, resetN := .high, stn := stn, addr := addr }
    host := { hpon := s.pins.hpon, hpawake := s.pins.hpawake,
              hponTimer := .stopped, hpawakeTimer := .stopped }
    loader := { Loader.default with
                phase := .header, selected := true, sent := [0x03#8, 0x00#8, 0x00#8] } }

end Sys2Proof.Machine
end

