-- ==== Sys2Proof/Machine/Image.lean ====
section
/-! DEFINITION. How a profile is read from its 329 image bytes, and the checks it must pass (R154,
R177, section 11.2): `decodeProfile` answers none exactly when a checked field fails. -/

namespace Sys2Proof.Machine

open Sys2Proof

/-- The number in bits `lo` to `lo + len - 1` of a byte (chapter 11). -/
def bits (b : Byte) (lo len : Nat) : Nat := b.toNat / 2 ^ lo % 2 ^ len

/-- The table whose entry `i` is `f i`, if every entry is there. -/
def tabOption {α : Type} {n : Nat} (d : α) (f : Fin n → Option α) : Option (Vector α n) :=
  if (List.finRange n).all fun i => (f i).isSome then some (tab fun i => (f i).getD d) else none

/-- The list of the entries, if every one is there. -/
def listOption {α : Type} : List (Option α) → Option (List α)
  | [] => some []
  | x :: xs =>
    match x, listOption xs with
    | some a, some as => some (a :: as)
    | _, _ => none

/-- A number as an index below `n`, if it is one. -/
def index (n k : Nat) : Option (Fin n) := if h : k < n then some ⟨k, h⟩ else none

/-- One slot settings byte (section 11.2). -/
def decodeSlot (b : Byte) : Option SlotCfg :=
  let cfg (k : LatchKind) : SlotCfg :=
    { kind := k, attn := b.getLsbD 3, wake := b.getLsbD 4, journal := b.getLsbD 5 }
  match bits b 0 3 with
  | 0 => some (cfg .none)
  | 1 => some (cfg .rise)
  | 2 => some (cfg .fall)
  | 3 => some (cfg .both)
  | 4 => some (cfg .level)
  | _ => none

/-- A channel's source from its kind and index codes: none when they name no source (section 11.2). -/
def decodeSource (kind idx : Nat) : Option Source :=
  match kind with
  | 0 => (index 12 idx).map .input
  | 1 => (index 4 idx).map .soft
  | 2 => (index 8 idx).map .pattern
  | 3 => some .conditions
  | _ => none

/-- The two bytes of a channel (section 11.2). The source codes of a disabled channel are not checked
(R154). -/
def decodeChan (b0 b1 : Byte) : Option ChanCfg :=
  match index 48 (bits b0 0 6), decodeSource (bits b1 0 3) (bits b1 4 4) with
  | some slot, some source =>
    some { enable := b0.getLsbD 7, slot := slot, source := source, invert := b0.getLsbD 6 }
  | some slot, none =>
    if b0.getLsbD 7 then none
    else
      some
        { enable := false, slot := slot, invert := b0.getLsbD 6
          source := .unnamed (BitVec.ofNat 3 (bits b1 0 3)) (BitVec.ofNat 4 (bits b1 4 4)) }
  | none, _ => none

/-- Filter time of a filter code (section 11.2). -/
def decodeFilter : Nat → Option Nat
  | 0 => some 0
  | 1 => some 1
  | 2 => some 4
  | 3 => some 16
  | 4 => some 64
  | _ => none

/-- Input mode of a mode code (section 11.2). -/
def decodeMode : Nat → Option Mode
  | 0 => some .follow
  | 1 => some .toggle
  | 2 => some .oneshot
  | _ => none

/-- One input byte (section 11.2). -/
def decodeInput (b : Byte) : Option InputCfg :=
  match decodeFilter (bits b 2 3), decodeMode (bits b 5 2) with
  | some ms, some mode =>
    some
      { polarity := if b.getLsbD 0 then .activeLow else .activeHigh
        domain := if b.getLsbD 1 then .main else .standby
        filterMs := ms
        mode := mode }
  | _, _ => none

/-- A step time, which must not be 0 (R92). DEDUCED (log 21). -/
def decodeTime (b : Byte) : Option Nat := if b.toNat = 0 then none else some b.toNat

/-- The four bytes of a step below the step count (R92, section 11.2). -/
def decodeStep (kind slot window time : Byte) : Option Step :=
  match kind.toNat with
  | 0 => (index 48 slot.toNat).map fun k => .rise k window.toNat
  | 1 => (index 48 slot.toNat).map fun k => .fall k window.toNat
  | 2 => some (.anyRise window.toNat)
  | 3 =>
    match index 48 slot.toNat, decodeTime time with
    | some k, some t => some (.hold k window.toNat t)
    | _, _ => none
  | 4 => (decodeTime time).map .quiet
  | _ => none

/-- Pattern action of its code (section 11.2). -/
def decodeAction : Nat → Action
  | 0 => .none
  | 1 => .pulse
  | 2 => .toggle
  | _ => .set

/-- The 26 bytes of a pattern, byte `i` being `at_ i` (R92, section 11.2). -/
def decodePattern (at_ : Nat → Byte) : Option PatCfg :=
  let count := bits (at_ 0) 0 3
  if 6 < count then none
  else
    (listOption ((List.range count).map fun k =>
      decodeStep (at_ (2 + 4 * k)) (at_ (3 + 4 * k)) (at_ (4 + 4 * k)) (at_ (5 + 4 * k)))).map
        fun steps =>
          { strict := !(at_ 0).getLsbD 3
            action := decodeAction (bits (at_ 0) 4 2)
            attn := (at_ 1).getLsbD 0
            wake := (at_ 1).getLsbD 1
            journal := (at_ 1).getLsbD 2
            steps := steps }

/-- Display of its code (section 11.2). -/
def decodeDisplay : Nat → Option Display
  | 0 => some .off
  | 1 => some .on
  | 2 => some .slow
  | 3 => some .medium
  | 4 => some .fast
  | 5 => some .flash
  | _ => none

/-- Host power state of its operand code in an indicator rule (section 11.2). -/
def decodeHostOperand : Nat → Option HostPower
  | 0 => some .run
  | 1 => some .sleep
  | 2 => some .off
  | _ => none

/-- Condition of an indicator rule from its kind code and operand (R130, section 11.2). -/
def decodeCond (kind operand : Nat) : Option Cond :=
  match kind with
  | 0 => some .none
  | 1 => (index 48 operand).map .slotAsserted
  | 2 => (index 48 operand).map .latch
  | 3 => (index 8 operand).map .matched
  | 4 => (index 7 operand).map .condition
  | 5 => (decodeHostOperand operand).map .host
  | 6 => some .always
  | _ => none

/-- The two bytes of an indicator rule entry (section 11.2). -/
def decodeRule (b0 b1 : Byte) : Option Rule :=
  match decodeCond (bits b0 0 3) b1.toNat, decodeDisplay (bits b0 3 3) with
  | some c, some d => some { cond := c, display := d }
  | _, _ => none

/-- No slot is named by two enabled channels (R154). -/
def slotsDistinct (chans : Vector ChanCfg 16) : Bool :=
  (List.finRange 16).all fun c => (List.finRange 16).all fun d =>
    decide (c = d) || !(chans.get c).enable || !(chans.get d).enable
      || !decide ((chans.get c).slot = (chans.get d).slot)

/-- An indicator polarity bit (section 11.2). -/
def decodePolarity (activeLow : Bool) : Polarity := if activeLow then .activeLow else .activeHigh

/-- The profile in 329 image bytes, if every check of R154 passes. -/
def decodeProfile (image : List Byte) : Option Profile :=
  let at_ (i : Nat) : Byte := image.getD i 0
  let slots := tabOption (fallbackProfile.slots.get 0) fun k : Fin 48 => decodeSlot (at_ (5 + k.val))
  let chans := tabOption (fallbackProfile.chans.get 0) fun c : Fin 16 =>
    decodeChan (at_ (53 + 2 * c.val)) (at_ (54 + 2 * c.val))
  let inputs := tabOption (fallbackProfile.inputs.get 0) fun i : Fin 12 =>
    decodeInput (at_ (85 + i.val))
  let patterns := tabOption (fallbackProfile.patterns.get 0) fun p : Fin 8 =>
    decodePattern fun i => at_ (97 + 26 * p.val + i)
  let rule (n : Fin 2) := tabOption ((fallbackProfile.rules.get 0).get 1) fun e : Fin 6 =>
    decodeRule (at_ (305 + 12 * n.val + 2 * e.val)) (at_ (306 + 12 * n.val + 2 * e.val))
  let rules := tabOption (fallbackProfile.rules.get 1) rule
  match slots, chans, inputs, patterns, rules with
  | some slots, some chans, some inputs, some patterns, some rules =>
    if 5 ≤ (at_ 1).toNat ∧ slotsDistinct chans = true then
      some
        { refresh := (at_ 0).toNat
          quiet := (at_ 1).toNat
          attnMask := tab fun c => (at_ 2).getLsbD c.val
          wakeMask := tab fun c => (at_ 3).getLsbD c.val
          indPolarity := tab fun n => decodePolarity ((at_ 4).getLsbD n.val)
          slots := slots
          chans := chans
          inputs := inputs
          patterns := patterns
          rules := rules }
    else none
  | _, _, _, _, _ => none

end Sys2Proof.Machine
end

