-- ==== Sys2Proof/Machine/Inputs.lean ====
section
/-! DEFINITION. Input conditioning and host power (chapter 5). -/

namespace Sys2Proof.Machine

open Sys2Proof

/-- Input `i`'s record becomes `r`. -/
def setInputRec (i : Fin 12) (r : InputRec) (s : State) : State := s.setInputs (put s.inputs i r)

/-- The mode acts on an activation (R81 to R83). -/
def modeActivation (i : Fin 12) (s : State) : State :=
  match (s.profile.inputs.get i).mode with
  | .follow => setInputOutput i .asserted s
  | .toggle => setInputOutput i (s.inputs.get i).output.opposite s
  | .oneshot => setInputOutput i .released (setInputOutput i .asserted s)

/-- The mode acts on a deactivation (R81 to R83). -/
def modeDeactivation (i : Fin 12) (s : State) : State :=
  match (s.profile.inputs.get i).mode with
  | .follow => setInputOutput i .released s
  | .toggle | .oneshot => s

/-- The filtered level takes the raw sample's value, the filter timer stops, and the mode acts on the
activation or deactivation, if it is one (R79, R80). -/
def filterTakes (i : Fin 12) (s : State) : State :=
  let r := s.inputs.get i
  let s' := setInputRec i { r with timer := .stopped, filtered := r.raw.level } s
  match r.filtered, r.raw.level with
  | .released, .asserted => modeActivation i s'
  | .asserted, .released => modeDeactivation i s'
  | _, _ => s'

/-- A raw sample is compared with the filtered level (R79): the filter starts afresh, or is passed at
once when the filter time is 0, or is stopped by a reversal. -/
def takeSample (i : Fin 12) (raw : RawSample) (s : State) : State :=
  let r := s.inputs.get i
  if raw.level = r.filtered then setInputRec i { r with raw := raw, timer := .stopped } s
  else if (s.profile.inputs.get i).filterMs = 0 then filterTakes i (setInputRec i { r with raw := raw } s)
  else
    setInputRec i
      { r with raw := raw, timer := .running (s.profile.inputs.get i).filterMs } s

/-- The raw sample that input `i`'s pin gives now (section 5.2). A pin whose level cannot be resolved now
gives its last resolved level: DESIGN CHOICE (log 12). -/
def pinSample (s : State) (i : Fin 12) : RawSample :=
  rawOf (s.profile.inputs.get i).polarity (s.pins.inputs.get i)

/-- An input's first sample, at the end of LOADING and on leaving OFF (R78, R88): with the filtered
level RELEASED, from the pin as it stands. -/
def firstSample (i : Fin 12) (s : State) : State :=
  takeSample i (pinSample s i)
    (setInputRec i { s.inputs.get i with timer := .stopped, filtered := .released } s)

/-- First samples of every input that is read, at the end of LOADING (R78). -/
def firstSamples (s : State) : State :=
  (List.finRange 12).foldl (fun s i => if inputRead s i then firstSample i s else s) s

/-- A MAIN input on entry to OFF (R87): not read any more, filter stopped, filtered level and output
RELEASED without the mode acting. -/
def dropMainInput (i : Fin 12) (s : State) : State :=
  setInputOutput i .released <|
    setInputRec i
      { s.inputs.get i with raw := .notSampled, timer := .stopped, filtered := .released } s

/-- Act on input `i` only if it is a MAIN input. -/
def onMain (f : Fin 12 → State → State) (s : State) : State :=
  (List.finRange 12).foldl
    (fun s i => if (s.profile.inputs.get i).domain = .main then f i s else s) s

/-- Input conditioning is told of a change of host power state (R86 to R88); during LOADING it is not
yet in operation. DEDUCED (log 25). -/
def hostPowerChanged (before : HostPower) (s : State) : State :=
  if s.station.onLine then
    if before ≠ .off ∧ hostPower s = .off then onMain dropMainInput s
    else if before = .off ∧ hostPower s ≠ .off then onMain firstSample s
    else s
  else s

/-- A pin IN0 to IN11 stands at a level (R79): a pin change if the input is read and the level is
new. DESIGN CHOICE (log 12). -/
def pinMoves (i : Fin 12) (l : PinLevel) (s : State) : State :=
  let s' := s.setPins { s.pins with inputs := put s.pins.inputs i l }
  if inputRead s i && !(s.pins.inputs.get i == l) then takeSample i (pinSample s' i) s' else s'

/-- An input's filter timer expires (R80). The event does not happen while the timer is stopped.
DEDUCED (log 5). -/
def filterExpires (i : Fin 12) (s : State) : State :=
  if s.station.onLine && (s.inputs.get i).timer.isRunning then filterTakes i s else s

/-- The level standing at a host-power pin. -/
def Pins.hostPin (p : Pins) : HostPin → PinLevel
  | .hpon => p.hpon
  | .hpawake => p.hpawake

/-- The pins with a host-power pin at a level. -/
def Pins.withHostPin (p : Pins) (pin : HostPin) (l : PinLevel) : Pins :=
  match pin with
  | .hpon => { p with hpon := l }
  | .hpawake => { p with hpawake := l }

/-- The filtered level of a host-power pin. -/
def HostDecoder.filtered (h : HostDecoder) : HostPin → PinLevel
  | .hpon => h.hpon
  | .hpawake => h.hpawake

/-- The filter timer of a host-power pin. -/
def HostDecoder.timer (h : HostDecoder) : HostPin → Timer
  | .hpon => h.hponTimer
  | .hpawake => h.hpawakeTimer

/-- The decoder with a filter timer set. -/
def HostDecoder.withTimer (h : HostDecoder) (pin : HostPin) (t : Timer) : HostDecoder :=
  match pin with
  | .hpon => { h with hponTimer := t }
  | .hpawake => { h with hpawakeTimer := t }

/-- The decoder with a filtered level taken and its filter timer stopped. -/
def HostDecoder.take (h : HostDecoder) (pin : HostPin) (l : PinLevel) : HostDecoder :=
  match pin with
  | .hpon => { h with hpon := l, hponTimer := .stopped }
  | .hpawake => { h with hpawake := l, hpawakeTimer := .stopped }

/-- A host-power pin stands at a level (R85): outside RESET a change of it starts its 1 ms filter, or
stops it when the pin has gone back. -/
def hostPinMoves (pin : HostPin) (l : PinLevel) (s : State) : State :=
  let s' := s.setPins (s.pins.withHostPin pin l)
  if s.station = .reset ∨ s.pins.hostPin pin = l then s'
  else
    s'.setHost <| s.host.withTimer pin <|
      if s.host.filtered pin = l then .stopped else .running Config.hostFilterMs

/-- A host-power pin's filter expires (R85): the filtered level takes the pin's level, the host power
state is decoded afresh and a change of it delivered (R86). -/
def hostFilterExpires (pin : HostPin) (s : State) : State :=
  if !(s.station == .reset) && (s.host.timer pin).isRunning then
    hostPowerChanged (hostPower s) (s.setHost (s.host.take pin (s.pins.hostPin pin)))
  else s

/-- PIN_CHANGE (R79). -/
def execPinChange (i : Fin 12) (l : PinLevel) (s : State) : Host.Outcome State Fault Refusal :=
  .next (pinMoves i l s)

/-- FILTER_TIMER_EXPIRY (R80). -/
def execFilterTimerExpiry (i : Fin 12) (s : State) : Host.Outcome State Fault Refusal :=
  .next (filterExpires i s)

/-- HOST_POWER_PIN_CHANGE (R85). -/
def execHostPowerPinChange (pin : HostPin) (l : PinLevel) (s : State) :
    Host.Outcome State Fault Refusal :=
  .next (hostPinMoves pin l s)

/-- HOST_POWER_FILTER_EXPIRY (R85). -/
def execHostPowerFilterExpiry (pin : HostPin) (s : State) : Host.Outcome State Fault Refusal :=
  .next (hostFilterExpires pin s)

end Sys2Proof.Machine
end

