-- ==== Sys2Proof/Machine/Patterns.lean ====
section
/-! DEFINITION. The pattern unit (chapter 6): entering a step, judging a delivered transition,
advance, completion, reset of progress, and the expiries of a pattern's timers. -/

namespace Sys2Proof.Machine

open Sys2Proof

/-- A transition: a change of a slot's agreed level made by a valid frame (R45). -/
structure Transition where
  slot : Fin 48
  level : Level
  cause : SlotCause
  stamp : BitVec 16
deriving DecidableEq, Repr

/-- The transition is a RISE. -/
def Transition.rises (t : Transition) : Bool := t.level == .asserted

/-- The transition is a RISE on slot `k`. -/
def Transition.risesOn (t : Transition) (k : Fin 48) : Bool := t.rises && t.slot == k

/-- The transition is a FALL on slot `k`. -/
def Transition.fallsOn (t : Transition) (k : Fin 48) : Bool := !t.rises && t.slot == k

/-- The slot a step adds to the watched set (R93). -/
def Step.watches : Step → Option (Fin 48)
  | .rise k _ | .fall k _ | .hold k _ _ => some k
  | .anyRise _ | .quiet _ => none

/-- Slot `k` is in the pattern's watched set (R93). -/
def PatCfg.watches (cfg : PatCfg) (k : Fin 48) : Bool :=
  cfg.steps.any fun st => st.watches == some k

/-- A transition satisfies a step (R98): HOLD and QUIET are completed by time alone. -/
def Step.satisfiedBy (st : Step) (t : Transition) : Bool :=
  match st with
  | .rise k _ => t.risesOn k
  | .fall k _ => t.fallsOn k
  | .anyRise _ => t.rises
  | .hold _ _ _ | .quiet _ => false

/-- A window in units of 10 ms as a timer: 0 is unlimited (section 6.1). -/
def windowTimer (w : Nat) : Timer := if w = 0 then .stopped else .running (10 * w)

/-- The timers a pattern runs right after entering step `k` (R94): the hold timer of a HOLD step whose
slot is ASSERTED, the quiet timer of a QUIET step, otherwise the window of a step other than step 0. -/
def entryTimers (s : State) (k : Nat) (st : Step) : Timer × HoldQuiet :=
  match st with
  | .rise _ w | .fall _ w | .anyRise w => (if k = 0 then .stopped else windowTimer w, .stopped)
  | .hold slot w t =>
    if (s.slots.get slot).level = .asserted then (.stopped, .hold (10 * t))
    else (if k = 0 then .stopped else windowTimer w, .stopped)
  | .quiet t => (.stopped, .quiet (10 * t))

/-- Step `k` becomes the current step of pattern `p` (R94). -/
def enterStep (p : Fin 8) (k : Nat) (s : State) : State :=
  let timers := match (s.profile.patterns.get p).steps[k]? with
    | some st => entryTimers s k st
    | none => (.stopped, .stopped)
  s.setPatterns <| put s.patterns p
    { s.patterns.get p with progress := k, window := timers.1, timer := timers.2 }

/-- A reset of progress (R95). -/
def resetProgress (p : Fin 8) (s : State) : State := enterStep p 0 s

/-- The action of a completing pattern (R110). -/
def performAction (p : Fin 8) (s : State) : State :=
  match (s.profile.patterns.get p).action with
  | .none => s
  | .pulse => setPatternOutput p .released (setPatternOutput p .asserted s)
  | .toggle => setPatternOutput p (s.patterns.get p).output.opposite s
  | .set => setPatternOutput p .asserted s

/-- The match latch of pattern `p` is set (R108, R111). -/
def setMatchLatch (p : Fin 8) (s : State) : State :=
  s.setPatterns (put s.patterns p { s.patterns.get p with latch := true })

/-- The MATCH record of a completion (R109): none for a pattern whose journal flag is off. -/
def matchRecord (p : Fin 8) (stamp : Option (BitVec 16)) (s : State) : State :=
  if (s.profile.patterns.get p).journal then generate (.matched p stamp) s else s

/-- Completion (R108), in its order: match latch, record, action, reset of progress. -/
def complete (p : Fin 8) (stamp : Option (BitVec 16)) (s : State) : State :=
  resetProgress p (performAction p (matchRecord p stamp (setMatchLatch p s)))

/-- The current step is complete (R98, R105, R106): the next step is entered, or the pattern
completes. -/
def advance (p : Fin 8) (stamp : Option (BitVec 16)) (s : State) : State :=
  if (s.patterns.get p).progress + 1 < (s.profile.patterns.get p).steps.length then
    enterStep p ((s.patterns.get p).progress + 1) s
  else complete p stamp s

/-- What a delivered transition does to a pattern (section 6.4). -/
inductive Verdict where
  | passOver
  | advance
  | startHold (ms : Nat)
  | restartQuiet (ms : Nat)
  | resetAndRetry
deriving DecidableEq, Repr

/-- A watched transition that fits nothing else resets a STRICT pattern and is passed over by a LOOSE
one; an unwatched one is passed over (R99, R100). -/
def mismatch (strict watched : Bool) : Verdict :=
  if strict && watched then .resetAndRetry else .passOver

/-- The verdict for the current step, with its hold timer running or not (R97 to R103). -/
def judge (st : Step) (holding strict watched : Bool) (t : Transition) : Verdict :=
  match st with
  | .rise _ _ | .fall _ _ | .anyRise _ =>
    if st.satisfiedBy t then .advance else mismatch strict watched
  | .hold k _ time =>
    if t.risesOn k then (if holding then .passOver else .startHold (10 * time))
    else if t.fallsOn k && holding then .resetAndRetry
    else mismatch strict watched
  | .quiet time =>
    if watched then (if strict then .resetAndRetry else .restartQuiet (10 * time)) else .passOver

/-- A RISE starts the hold timer of a waiting HOLD step and stops its window (R101). -/
def startHold (p : Fin 8) (ms : Nat) (s : State) : State :=
  s.setPatterns (put s.patterns p { s.patterns.get p with window := .stopped, timer := .hold ms })

/-- A watched transition restarts the quiet timer of a LOOSE pattern (R103). -/
def restartQuiet (p : Fin 8) (ms : Nat) (s : State) : State :=
  s.setPatterns (put s.patterns p { s.patterns.get p with timer := .quiet ms })

/-- The hold timer of the pattern is running. -/
def PatRec.holding (r : PatRec) : Bool :=
  match r.timer with
  | .hold _ => true
  | _ => false

/-- The retry of a transition against step 0 as re-armed (R99): at most one step, never a completion. -/
def retry (p : Fin 8) (t : Transition) (s : State) : State :=
  match (s.profile.patterns.get p).steps with
  | st :: _ :: _ =>
    if st.satisfiedBy t then enterStep p 1 s
    else
      match st with
      | .hold k _ time =>
        if t.risesOn k && !(s.patterns.get p).holding then startHold p (10 * time) s else s
      | _ => s
  | [.hold k _ time] =>
    if t.risesOn k && !(s.patterns.get p).holding then startHold p (10 * time) s else s
  | _ => s

/-- Pattern `p` takes a delivered transition, whole (R97). A disabled pattern takes none (R92). -/
def patternTake (p : Fin 8) (t : Transition) (s : State) : State :=
  let cfg := s.profile.patterns.get p
  let r := s.patterns.get p
  match cfg.steps[r.progress]? with
  | none => s
  | some st =>
    match judge st r.holding cfg.strict (cfg.watches t.slot) t with
    | .passOver => s
    | .advance => advance p (some t.stamp) s
    | .startHold ms => startHold p ms s
    | .restartQuiet ms => restartQuiet p ms s
    | .resetAndRetry => retry p t (resetProgress p s)

/-- The pattern unit takes a delivered transition: each pattern in ascending number (R97). -/
def patternsTake (t : Transition) (s : State) : State :=
  (List.finRange 8).foldl (fun s p => patternTake p t s) s

/-- Arming at the step out of LISTEN (R96): every enabled pattern enters step 0. -/
def armPatterns (s : State) : State :=
  (List.finRange 8).foldl
    (fun s p => if (s.profile.patterns.get p).steps.isEmpty then s else enterStep p 0 s) s

/-- The window timer of pattern `p` expires (R104): a reset of progress, without a retry. The event
does not happen while the timer is not running. DEDUCED (log 5). -/
def windowExpires (p : Fin 8) (s : State) : State :=
  if s.station.delivers && (s.patterns.get p).window.isRunning then resetProgress p s else s

/-- The slot of the HOLD step that is current in pattern `p`. -/
def holdSlot (s : State) (p : Fin 8) : Option (Fin 48) :=
  match (s.profile.patterns.get p).steps[(s.patterns.get p).progress]? with
  | some (.hold k _ _) => some k
  | _ => none

/-- The hold timer of pattern `p` expires (R105): the step completes if its slot is ASSERTED in the
slot table, and progress is reset otherwise. -/
def holdExpires (p : Fin 8) (s : State) : State :=
  if s.station.delivers then
    match (s.patterns.get p).timer, holdSlot s p with
    | .hold _, some k =>
      if (s.slots.get k).level = .asserted then advance p none s else resetProgress p s
    | _, _ => s
  else s

/-- The quiet timer of pattern `p` expires (R106): the QUIET step is complete. -/
def quietExpires (p : Fin 8) (s : State) : State :=
  if s.station.delivers then
    match (s.patterns.get p).timer with
    | .quiet _ => advance p none s
    | _ => s
  else s

/-- ACK_PATTERNS acts on the patterns named in the mask (R112): match latch CLEAR, and a SET output
released; pattern by pattern, each its own state. -/
def ackPattern (p : Fin 8) (s : State) : State :=
  let s' := s.setPatterns (put s.patterns p { s.patterns.get p with latch := false })
  if (s.profile.patterns.get p).action = .set then setPatternOutput p .released s' else s'

/-- ACK_PATTERNS over a mask of the eight patterns (R112). -/
def ackPatternsMask (mask : Byte) (s : State) : State :=
  (List.finRange 8).foldl (fun s p => if mask.getLsbD p.val then ackPattern p s else s) s

/-- WINDOW_TIMER_EXPIRY (R104). -/
def execWindowTimerExpiry (p : Fin 8) (s : State) : Host.Outcome State Fault Refusal :=
  .next (windowExpires p s)

/-- HOLD_TIMER_EXPIRY (R105). -/
def execHoldTimerExpiry (p : Fin 8) (s : State) : Host.Outcome State Fault Refusal :=
  .next (holdExpires p s)

/-- QUIET_TIMER_EXPIRY (R106). -/
def execQuietTimerExpiry (p : Fin 8) (s : State) : Host.Outcome State Fault Refusal :=
  .next (quietExpires p s)

end Sys2Proof.Machine
end

