-- ==== Sys2Proof/Machine/Slots.lean ====
section
/-! DEFINITION. The slot table (chapter 3): how a valid frame's receive record is applied, the
transitions it gives, their delivery, latch seeding and acknowledgement. -/

namespace Sys2Proof.Machine

open Sys2Proof

/-- A slot's entry after a valid frame (R43): `owned` when the slot is bound to an OWNED channel. -/
def applySlot (owned present driven : Bool) (e : SlotEntry) : SlotEntry :=
  if present then
    { e with own := if owned then .localOwned else .remote, level := Level.ofDriven driven }
  else { e with own := .unowned, level := .released }

/-- Every entry after the receive record in the line interface is applied (R43). -/
def appliedSlots (s : State) : Vector SlotEntry 48 :=
  tab fun k =>
    applySlot (ownedSlot s k) (s.lif.presence.get k) (s.lif.level.get k) (s.slots.get k)

/-- Slot `k` loses its owner in the frame (R36): it was REMOTE and its presence reads FREE. -/
def losesOwner (s : State) (k : Fin 48) : Bool :=
  (s.slots.get k).own == .remote && !s.lif.presence.get k

/-- The transition that the frame in the receive record gives on slot `k`, if any (R45). -/
def transitionAt (s : State) (k : Fin 48) : Option Transition :=
  let after := (appliedSlots s).get k
  if after.level = (s.slots.get k).level then none
  else
    some
      { slot := k
        level := after.level
        cause := if s.lif.presence.get k then .frame else .ownerLost
        stamp := s.lif.validCount }

/-- The transitions of the frame in the receive record, in ascending slot order (R46). -/
def transitions (s : State) : List Transition := (List.finRange 48).filterMap (transitionAt s)

/-- A latch kind marks a direction (section 3.5). -/
def LatchKind.marks (k : LatchKind) (rise : Bool) : Bool :=
  match k with
  | .none => false
  | .rise => rise
  | .fall => !rise
  | .both => true
  | .level => rise

/-- The latch step of a delivered transition (R52). -/
def latchStep (t : Transition) (s : State) : State :=
  if (s.profile.slots.get t.slot).kind.marks t.rises then
    s.setSlots (put s.slots t.slot { s.slots.get t.slot with latch := true })
  else s

/-- The journal step of a delivered transition (R47). -/
def journalStep (t : Transition) (s : State) : State :=
  if (s.profile.slots.get t.slot).journal then
    generate (.slot t.slot t.level t.cause t.stamp) s
  else s

/-- One transition is delivered whole: latch, journal, patterns (R46). -/
def deliver (t : Transition) (s : State) : State :=
  patternsTake t (journalStep t (latchStep t s))

/-- A valid frame is applied to the table (R43), outside LISTEN: the entries take their new ownership
and level, and each loss of a REMOTE slot's owner reaches the OWNER_LOST latch (R36). -/
def applyFrame (s : State) : State :=
  let s' := s.setSlots (appliedSlots s)
  if (List.finRange 48).any (losesOwner s) then setCond condOwnerLost s' else s'

/-- A valid frame is applied silently in LISTEN (R50). -/
def learnFrame (s : State) : State := s.setSlots (appliedSlots s)

/-- LEVEL latches are seeded at the step out of LISTEN (R51). -/
def seedLatches (s : State) : State :=
  s.setSlots <| tab fun k =>
    let e := s.slots.get k
    if (s.profile.slots.get k).kind = .level ∧ e.level = .asserted then { e with latch := true }
    else e

/-- A latch an acknowledgement cannot clear: kind LEVEL, slot ASSERTED, latch SET (R54). -/
def slotHeld (s : State) (k : Fin 48) : Bool :=
  (s.profile.slots.get k).kind == .level && (s.slots.get k).level == .asserted
    && (s.slots.get k).latch

/-- Slot `k` lies in the range first, count. -/
def inRange (first count : Nat) (k : Fin 48) : Bool :=
  decide (first ≤ k.val) && decide (k.val < first + count)

/-- ACK_SLOTS acts on a range (R54): every latch of the range is cleared but the held ones. -/
def ackSlotRange (first count : Nat) (s : State) : State :=
  s.setSlots <| tab fun k =>
    let e := s.slots.get k
    if inRange first count k && !slotHeld s k then { e with latch := false } else e

/-- The held slots of a range, ascending (R54, R171). -/
def heldSlots (first count : Nat) (s : State) : List (Fin 48) :=
  (List.finRange 48).filter fun k => inRange first count k && slotHeld s k

end Sys2Proof.Machine
end

