-- ==== Sys2Proof/Machine/Line.lean ====
section
/-! DEFINITION. The line interface (chapter 1): starts, cells, the gap, the stuck line, the timers of
the line, and withdrawal at a void end (chapter 2). The frame end itself is in Frame.lean. -/

namespace Sys2Proof.Machine

open Sys2Proof

/-- The receiver now reports `x` on the event line. -/
def seeLine (x : Sample) (s : State) : State := s.setPins { s.pins with evl := x }

/-- The line interface with an empty receive record (R4, R8). -/
def Lif.discard (l : Lif) : Lif :=
  { l with presence := tab fun _ => false, level := tab fun _ => false }

/-- A FREE sample stops the stuck timer; a DRIVEN or an ambiguous one leaves it (R1, R20).
DEDUCED (log 13). -/
def Lif.stuckSees (l : Lif) (x : Sample) : Lif :=
  if x = .free then { l with stuckTimer := .stopped } else l

/-! ### Starts -/

/-- A falling edge starts the stuck timer, but in LINE_STUCK (R20, R21). -/
def Lif.edge (l : Lif) : Lif :=
  if l.line = .stuck then l else { l with stuckTimer := .running Config.stuckMs }

/-- A start is taken (R4): LINE_FRAME at position 0 with a clean frame state; the flags that stand now
are the ones this frame begins with (R16, R27). DEDUCED (log 7). The gap count and length keep their
last values in LINE_FRAME. DEDUCED (log 16). -/
def Lif.takeStart (l : Lif) : Lif :=
  { l.discard with
    line := .frame, pos := 0, fault := false, contention := tab fun _ => false,
    announceAtStart := l.announce, censusAtStart := l.census }

/-- A falling edge is a start: in LINE_IDLE, or in LINE_GAP once the gap count has reached one less
than the gap length (R3, R4). -/
def Lif.edgeStarts (l : Lif) : Bool :=
  l.line == .idle || (l.line == .gap && decide (l.gapLen ≤ l.gapCount + 1))

/-- A falling edge at the line interface (R3, R4, R20, R21). -/
def Lif.fall (l : Lif) : Lif :=
  if l.edgeStarts then l.edge.takeStart
  else if l.line = .gap then { l.edge with gapLen := Config.longGap, gapCount := 0 }
  else l.edge

/-- The line falls (R4). -/
def lineFalls (s : State) : State :=
  let s' := seeLine .driven s
  if s.station.onLine then s'.setLif s.lif.fall else s'

/-- A start pattern is good (R4): a DRIVEN run of 4 to 5 cell times and then a FREE cell that samples
FREE. `run` is in tenths of a cell time. DESIGN CHOICE (log 8). -/
def goodStart (run : Nat) (cell : Sample) : Bool :=
  decide (Config.startCells * Config.tenthsPerCell ≤ run)
    && decide (run ≤ Config.startCellsMax * Config.tenthsPerCell) && cell == .free

/-- A false start (R4): the frame is abandoned, LINE_GAP with gap length 104. The position, the fault
flag and the contention set keep their values until the next start. DEDUCED (log 16). -/
def Lif.falseStart (l : Lif) : Lif :=
  { l.discard with line := .gap, gapCount := 0, gapLen := Config.longGap, startDrive := 0 }

/-- Frame begins at the transmit side (R6, R65): the head of every OWNED channel's list is in flight. -/
def takeSnapshots (s : State) : State :=
  s.setChans <| tab fun c =>
    let ch := s.chans.get c
    if ch.state = .owned then { ch with inFlight := !ch.pending.isEmpty } else ch

/-- The census-wait timer starts for the profile's quiet interval (R24, R25). -/
def startCensusWait (s : State) : State :=
  s.setOwner { s.owner with waitTimer := .running s.profile.quiet }

/-- Frame begins (R6): the census-wait timer restarts in LISTEN, snapshots are taken in ACTIVE. -/
def frameBegins (s : State) : State :=
  if s.station = .active then takeSnapshots s
  else if s.station = .listen then startCensusWait s
  else s

/-- The start pattern is judged (R4). -/
def startPatternEnds (run : Nat) (cell : Sample) (s : State) : State :=
  let s' := seeLine cell s
  if s.station.onLine && s.lif.line == .frame && decide (s.lif.pos < Config.firstSlotCell) then
    let l := s.lif.stuckSees cell
    if goodStart run cell then
      frameBegins (s'.setLif { l with pos := Config.firstSlotCell, startDrive := 0 })
    else s'.setLif l.falseStart
  else s'

/-- The station drives the start pattern's 4 DRIVEN cells, when it may (R5) and is not driving them
already. The falling edge this makes on the line is taken by FALLING_EDGE, like any other (R4).
DESIGN CHOICE (log 6). -/
def startFrame (s : State) : State :=
  if mayStart s && s.lif.startDrive == 0 then
    s.setLif { s.lif with startDrive := Config.startCells }
  else s

/-! ### Cells -/

/-- A presence or level value written into the receive record: DRIVEN or FREE, an ambiguous sample as
FREE (R8). -/
def recorded : Sample → Bool
  | .driven => true
  | .free => false
  | .ambiguous => false

/-- A presence sample is a cell error at an ACTIVE station (R10): it is ambiguous, or FREE on a LOCAL
slot. -/
def presenceError (s : State) (k : Fin 48) (x : Sample) : Bool :=
  s.station == .active
    && (x == .ambiguous || (x == .free && (s.slots.get k).own == .localOwned))

/-- A level sample is a cell error at an ACTIVE station (R10): it is ambiguous, or FREE on a LOCAL slot
that carries ASSERTED. -/
def levelError (s : State) (k : Fin 48) (x : Sample) : Bool :=
  s.station == .active
    && (x == .ambiguous
      || (x == .free && (s.slots.get k).own == .localOwned && slotSnapshot s k == .asserted))

/-- A level sample shows contention (R9): a LOCAL slot that carries RELEASED reads DRIVEN. -/
def contends (s : State) (k : Fin 48) (x : Sample) : Bool :=
  s.station == .active && x == .driven && (s.slots.get k).own == .localOwned
    && slotSnapshot s k == .released

/-- One cell of the frame in progress is sampled (R7 to R10). In the start pattern the position
follows the run and then its FREE cell; the CHECK cell is FRAME_END's. DEDUCED (log 8, log 9). -/
def frameCell (x : Sample) (s : State) : Lif :=
  let l := s.lif
  match cellAt l.pos with
  | .start => { l with pos := if x = .free then 4 else min (l.pos + 1) 3, startDrive := l.startDrive - 1 }
  | .presence k =>
    { l with
      pos := l.pos + 1
      presence := put l.presence k (recorded x)
      fault := l.fault || presenceError s k x }
  | .level k =>
    { l with
      pos := l.pos + 1
      level := put l.level k (recorded x)
      fault := l.fault || levelError s k x || contends s k x
      contention := put l.contention k (l.contention.get k || contends s k x) }
  | .check => l

/-- One cell time in LINE_GAP (R3): a FREE cell counts, a DRIVEN or ambiguous one clears the count.
DEDUCED (log 15). -/
def Lif.gapCell (l : Lif) (x : Sample) : Lif :=
  if x = .free then { l with gapCount := min (l.gapCount + 1) l.gapLen } else { l with gapCount := 0 }

/-- One cell time in LINE_STUCK (R21): the recovery timer starts at the first FREE sample, and a DRIVEN
or ambiguous one restarts it. DEDUCED (log 14). -/
def Lif.stuckCell (l : Lif) (x : Sample) : Lif :=
  if x = .free then
    if l.recoveryTimer.isRunning then l else { l with recoveryTimer := .running Config.recoveryMs }
  else if l.recoveryTimer.isRunning then { l with recoveryTimer := .running Config.recoveryMs }
  else l

/-- One cell time at the line interface, before the stuck timer sees the sample. -/
def cellTaken (x : Sample) (s : State) : Lif :=
  match s.lif.line with
  | .idle => { s.lif with startDrive := s.lif.startDrive - 1 }
  | .frame => frameCell x s
  | .gap => s.lif.gapCell x
  | .stuck => s.lif.stuckCell x

/-- A cell is sampled (R8). -/
def sampleCell (x : Sample) (s : State) : State :=
  let s' := seeLine x s
  if s.station.onLine then s'.setLif ((cellTaken x s).stuckSees x) else s'

/-- The idle gap is complete (R3). The event does not happen before the count has reached the gap
length. DEDUCED (log 5). The gap count and length keep their last values in LINE_IDLE. DEDUCED
(log 16). -/
def gapCompletes (s : State) : State :=
  if s.station.onLine && s.lif.line == .gap && decide (s.lif.gapLen ≤ s.lif.gapCount) then
    s.setLif { s.lif with line := .idle }
  else s

/-! ### Timers of the line -/

/-- The refresh timer expires (R17): REFRESH is raised and the timer waits to be restarted. -/
def refreshExpires (s : State) : State :=
  if s.station == .active && s.lif.refreshTimer.isRunning then
    s.setLif { s.lif with refresh := true, refreshTimer := .stopped }
  else s

/-- The census-wait timer expires (R25): CENSUS is raised and the timer stops. -/
def censusWaitExpires (s : State) : State :=
  if s.station == .listen && s.owner.waitTimer.isRunning then
    (s.setLif { s.lif with census := true }).setOwner { s.owner with waitTimer := .stopped }
  else s

/-- The backoff timer expires (R19). -/
def backoffExpires (s : State) : State :=
  if s.station.onLine && s.lif.backoffTimer.isRunning then
    s.setLif { s.lif with backoff := false, backoffTimer := .stopped }
  else s

/-! ### Void ends, withdrawal, backoff -/

/-- A void frame end at the transmit side (R69): no head is in flight any more. -/
def clearInFlight (s : State) : State :=
  s.setChans <| tab fun c =>
    let ch := s.chans.get c
    if ch.state = .owned then { ch with inFlight := false } else ch

/-- The contended slots, ascending (R34). -/
def contended (s : State) : List (Fin 48) := (List.finRange 48).filter fun k => s.lif.contention.get k

/-- The OWNED channels bound to contended slots withdraw (R34, R70), and those slots move from LOCAL to
REMOTE (R56). DEDUCED (log 23). -/
def withdrawClaims (s : State) : State :=
  (s.setChans <| tab fun c =>
      let ch := s.chans.get c
      if ch.state = .owned ∧ s.lif.contention.get (s.profile.chans.get c).slot = true then
        { ch with state := .withdrawn, pending := [], inFlight := false }
      else ch).setSlots <| tab fun k =>
    let e := s.slots.get k
    if s.lif.contention.get k = true ∧ e.own = .localOwned then { e with own := .remote } else e

/-- The CONTEST latch and the CLAIM records of a withdrawal, in ascending slot order (R34). -/
def reportContest (slots : List (Fin 48)) (s : State) : State :=
  slots.foldl (fun s k => generate (.claim k .contest) (setCond condContest s)) s

/-- The consecutive-void count after one more void end; at 8 the station enters backoff, or restarts
it, and the count is cleared (R18). -/
def Lif.countVoid (l : Lif) : Lif :=
  if l.voidCount + 1 < Config.backoffVoids then { l with voidCount := l.voidCount + 1 }
  else
    { l with voidCount := 0, backoff := true, backoffTimer := .running Config.backoffMs }

/-- The BACKOFF latch and record (R18). -/
def reportBackoff (s : State) : State := generate (.line .backoff) (setCond condBackoff s)

/-- The LINE_STUCK latch and the STUCK record (R20). -/
def reportStuck (s : State) : State := generate (.line .stuck) (setCond condLineStuck s)

/-- Two reports that come together and that no rule orders (R143): the free value `first` says which
is taken first, and one free value is spent. DESIGN CHOICE (log 3). -/
def eitherOrder (first : Nat → Bool) (f g : State → State) (s : State) : State :=
  let s' := s.setFreeIndex (s.freeIndex + 1)
  if first s.freeIndex then g (f s') else f (g s')

/-- Entry to LINE_STUCK at the line interface (R20). The position, the fault flag, the contention set,
and the gap count and length keep their last values. DEDUCED (log 16). -/
def Lif.enterStuck (l : Lif) : Lif :=
  { l.discard with
    line := .stuck, startDrive := 0, stuckTimer := .stopped, recoveryTimer := .stopped }

/-- The line has been DRIVEN for more than 2 ms (R20). A frame in progress is abandoned with a void end
to the transmit side and its contention set to the ownership controller (R35). -/
def stuckExpires (s : State) : State :=
  if s.station.onLine && s.lif.stuckTimer.isRunning && !(s.lif.line == .stuck) then
    if s.lif.line = .frame then
      let s' := withdrawClaims (clearInFlight s)
      let s'' := s'.setLif s.lif.enterStuck
      if (contended s).isEmpty then reportStuck s''
      else eitherOrder Config.stuckRecordFirst reportStuck (reportContest (contended s)) s''
    else reportStuck (s.setLif s.lif.enterStuck)
  else s

/-- The line has been FREE for 1 ms in LINE_STUCK (R21). The gap count and length keep their last
values in LINE_IDLE. DEDUCED (log 16). -/
def recoveryExpires (s : State) : State :=
  if s.station.onLine && s.lif.line == .stuck && s.lif.recoveryTimer.isRunning then
    generate (.line .clear)
      (s.setLif { s.lif with line := .idle, recoveryTimer := .stopped })
  else s

/-! ### The blink phase -/

/-- The blink phase reaches `phase` (R133, R134); it is stopped before the end of LOADING (R130). -/
def blinkReaches (phase : Fin 2000) (s : State) : State :=
  if s.blink.running then s.setBlink { s.blink with phase := phase } else s

/-! ### Meanings -/

/-- FALLING_EDGE (R4). -/
def execFallingEdge (s : State) : Host.Outcome State Fault Refusal := .next (lineFalls s)

/-- START_PATTERN_END (R4). -/
def execStartPatternEnd (run : Nat) (cell : Sample) (s : State) :
    Host.Outcome State Fault Refusal :=
  .next (startPatternEnds run cell s)

/-- CELL_SAMPLED (R8). -/
def execCellSampled (x : Sample) (s : State) : Host.Outcome State Fault Refusal :=
  .next (sampleCell x s)

/-- GAP_COMPLETE (R3). -/
def execGapComplete (s : State) : Host.Outcome State Fault Refusal := .next (gapCompletes s)

/-- FRAME_START (R5). -/
def execFrameStart (s : State) : Host.Outcome State Fault Refusal := .next (startFrame s)

/-- REFRESH_TIMER_EXPIRY (R17). -/
def execRefreshTimerExpiry (s : State) : Host.Outcome State Fault Refusal :=
  .next (refreshExpires s)

/-- CENSUS_WAIT_EXPIRY (R25). -/
def execCensusWaitExpiry (s : State) : Host.Outcome State Fault Refusal :=
  .next (censusWaitExpires s)

/-- BACKOFF_TIMER_EXPIRY (R19). -/
def execBackoffTimerExpiry (s : State) : Host.Outcome State Fault Refusal :=
  .next (backoffExpires s)

/-- STUCK_TIMER_EXPIRY (R20). -/
def execStuckTimerExpiry (s : State) : Host.Outcome State Fault Refusal := .next (stuckExpires s)

/-- RECOVERY_TIMER_EXPIRY (R21). -/
def execRecoveryTimerExpiry (s : State) : Host.Outcome State Fault Refusal :=
  .next (recoveryExpires s)

/-- BLINK_PHASE_CROSSING (R134). -/
def execBlinkPhaseCrossing (phase : Fin 2000) (s : State) : Host.Outcome State Fault Refusal :=
  .next (blinkReaches phase s)

end Sys2Proof.Machine
end

