-- ==== Sys2Proof/Machine/Loader.lean ====
section
/-! DEFINITION. Resets and start-up (chapter 9): POWER_ON_RESET, PIN_RESET, RESET_END, the loader's
read byte by byte, and the end of LOADING. -/

namespace Sys2Proof.Machine

open Sys2Proof

/-! ### Resets -/

/-- The supply falls below its threshold (R148): RESET with cause POWER, whatever was recorded. -/
def supplyFails (s : State) : State :=
  (enterReset .power s).setPins { s.pins with supplyGood := false }

/-- RESET_N falls (R148): RESET with cause PIN; in RESET already, the recorded cause stays. -/
def resetPinFalls (s : State) : State :=
  (enterReset (if s.station = .reset then s.cause else .pin) s).setPins
    { s.pins with resetN := .low }

/-- RESET ends (R150). The event does not happen outside RESET. DEDUCED (log 5). -/
def resetEnds (stn : BitVec 4) (addr : BitVec 2) (s : State) : State :=
  if s.station = .reset then leaveReset stn addr s else s

/-- A RESTART that is acted on (R160, R173): a reset of kind REQUEST, through RESET within the one
event. -/
def restartStation (stn : BitVec 4) (addr : BitVec 2) (s : State) : State :=
  leaveReset stn addr (enterReset .request s)

/-! ### The end of LOADING (R158) -/

/-- The channels take their settings (R24, R59): CLAIMING or UNUSED, level computed from the source. -/
def startChannels (s : State) : State :=
  s.setChans <| tab fun c =>
    { s.chans.get c with
      state := if (s.profile.chans.get c).enable then .claiming else .unused
      level := effectiveLevel s c }

/-- LOADING ends with a profile in force and an image status (R158). -/
def endLoading (p : Profile) (status : ImageStatus) (s : State) : State :=
  let s := (s.setStation .listen).setProfile p
  let s := s.setLif
    { s.lif with
      line := .gap, gapCount := 0, gapLen := Config.longGap
      stuckTimer := if s.pins.evl = .free then .stopped else .running Config.stuckMs }
  let s := s.setOwner
    { progress := 0, seen := tab fun _ => false, waitTimer := .running p.quiet,
      imageFault := status == .fault }
  let s := if status = .fault then setCond condImageFault s else s
  let s := firstSamples (startChannels s)
  let s := s.setBlink { running := true, phase := 0 }
  generate (.start s.cause status) s

/-! ### The loader (R151 to R156) -/

/-- A check fails (R156): the read ends, the retained profile is discarded, and LOADING ends with the
fallback profile. -/
def failLoading (reason : FaultReason) (s : State) : State :=
  endLoading fallbackProfile .fault <|
    s.setLoader
      { s.loader with
        phase := .done, status := .fault, reason := reason, retained := [], selected := false }

/-- Every check has passed (R154): LOADING ends with the retained profile. -/
def passLoading (p : Profile) (s : State) : State :=
  endLoading p .ok (s.setLoader { s.loader with status := .ok })

/-- The length of an image of `count` profiles, in bytes (section 9.2). -/
def imageLength (count : Nat) : Nat := Config.headerBytes + Config.profileBytes * count

/-- The header checksum, low byte first (section 11.2). -/
def Loader.checksum (l : Loader) : BitVec 16 :=
  BitVec.ofNat 16 ((l.header.getD 4 0).toNat + 256 * (l.header.getD 5 0).toNat)

/-- The image byte at position `pos` belongs to the selected profile (R153). -/
def ofSelected (code : BitVec 4) (pos : Nat) : Bool :=
  decide (Config.headerBytes + Config.profileBytes * code.toNat ≤ pos)
    && decide (pos < Config.headerBytes + Config.profileBytes * (code.toNat + 1))

/-- The last profile byte has been read (R153, R154): the sum is compared, then the retained profile
validated. -/
def finishRead (s : State) : State :=
  let s := s.setLoader { s.loader with phase := .done, selected := false }
  if s.loader.sum ≠ s.loader.checksum then failLoading .badSum s
  else
    match decodeProfile s.loader.retained with
    | some p => passLoading p s
    | none => failLoading .badProfile s

/-- A header byte arrives (R152): each check is made as soon as its bytes have arrived. -/
def takeHeaderByte (b : Byte) (s : State) : State :=
  let l := s.loader
  let l := { l with pos := l.pos + 1, header := l.header ++ [b] }
  let s := s.setLoader l
  match l.pos with
  | 2 => if l.header = [0xC7#8, 0x1E#8] then s else failLoading .badMarker s
  | 3 => if b = 0x01#8 then s else failLoading .badVersion s
  | 4 =>
    let s := s.setLoader { l with count := b.toNat }
    if b.toNat < 1 ∨ 16 < b.toNat then failLoading .badCount s
    else if s.stationCode.toNat < b.toNat then s
    else failLoading .noProfile s
  | 6 => s.setLoader { l with phase := .profiles }
  | _ => s

/-- A profile byte arrives (R153): it is summed, and kept if it is the selected profile's. -/
def takeProfileByte (b : Byte) (s : State) : State :=
  let l := s.loader
  let s := s.setLoader
    { l with
      pos := l.pos + 1
      sum := l.sum + b.setWidth 16
      retained := if ofSelected s.stationCode l.pos then l.retained ++ [b] else l.retained }
  if imageLength l.count ≤ s.loader.pos then finishRead s else s

/-- One image byte arrives (R151). The event does not happen outside the loader's read.
DEDUCED (log 5). -/
def takeImageByte (b : Byte) (s : State) : State :=
  if s.station = .loading then
    match s.loader.phase with
    | .header => takeHeaderByte b s
    | .profiles => takeProfileByte b s
    | .idle | .done => s
  else s

/-! ### Meanings -/

/-- POWER_ON_RESET (R148). -/
def execPowerOnReset (s : State) : Host.Outcome State Fault Refusal := .next (supplyFails s)

/-- PIN_RESET (R148). -/
def execPinReset (s : State) : Host.Outcome State Fault Refusal := .next (resetPinFalls s)

/-- RESET_END (R150). -/
def execResetEnd (stn : BitVec 4) (addr : BitVec 2) (s : State) :
    Host.Outcome State Fault Refusal :=
  .next (resetEnds stn addr s)

/-- IMAGE_BYTE_TAKEN (R153). -/
def execImageByteTaken (b : Byte) (s : State) : Host.Outcome State Fault Refusal :=
  .next (takeImageByte b s)

end Sys2Proof.Machine
end

