-- ==== Sys2Proof/Machine/Operands.lean ====
section
/-! DEFINITION. The operands of host port requests: how many each takes, the values each accepts
(section 11.3), and the judgement of a write (R167). -/

namespace Sys2Proof.Machine

open Sys2Proof

/-- A range first, count of at most `most` items out of `size` (R169, R171). -/
def rangeAccepted (size most : Nat) (first count : Byte) : Bool :=
  decide (first.toNat < size) && decide (1 ≤ count.toNat) && decide (count.toNat ≤ most)
    && decide (first.toNat + count.toNat ≤ size)

/-- The code byte of a request (section 11.3). -/
def RequestCode.byte : RequestCode → Byte
  | .getStatus => 0x01#8
  | .getSlots => 0x02#8
  | .getChannels => 0x03#8
  | .getPatterns => 0x04#8
  | .readJournal => 0x05#8
  | .ackSlots => 0x10#8
  | .ackConditions => 0x11#8
  | .ackPatterns => 0x12#8
  | .setSoft => 0x20#8
  | .pulseSoft => 0x21#8
  | .restart => 0x30#8

/-- The number of operand bytes a request takes (section 11.3). -/
def operandCount : RequestCode → Nat
  | .getStatus | .getPatterns | .restart => 0
  | .readJournal | .ackConditions | .ackPatterns | .pulseSoft => 1
  | .getSlots | .getChannels | .ackSlots | .setSoft => 2

/-- The operand bytes are values the request accepts (R169 to R172, R178). -/
def operandsAccepted (code : RequestCode) (ops : List Byte) : Bool :=
  match code, ops with
  | .getStatus, [] | .getPatterns, [] | .restart, [] => true
  | .getSlots, [first, count] => rangeAccepted 48 16 first count
  | .getChannels, [first, count] => rangeAccepted 16 16 first count
  | .readJournal, [n] => decide (1 ≤ n.toNat) && decide (n.toNat ≤ 4)
  | .ackSlots, [first, count] => rangeAccepted 48 48 first count
  | .ackConditions, [mask] => !mask.getLsbD 7
  | .ackPatterns, [_] => true
  | .setSoft, [k, level] => decide (k.toNat < 4) && decide (level.toNat < 2)
  | .pulseSoft, [k] => decide (k.toNat < 4)
  | _, _ => false

/-- The tag of a request: its second byte, 00h if it has none (R164). -/
def requestTag (rest : List Byte) : Byte := rest.headD 0

/-- The judgement of a write outside LOADING (R167, cases 2 to 6). `code` is what its first byte names
and `rest` are the bytes after that. -/
def judgeRequest (code : Option RequestCode) (rest : List Byte) : Result :=
  if rest = [] ∨ Config.requestMax < rest.length + 1 then .badLength
  else
    match code with
    | none => .badRequest
    | some c =>
      if rest.tail.length ≠ operandCount c then .badLength
      else if operandsAccepted c rest.tail then .ok
      else .badOperand

/-- The mask of ACK_CONDITIONS as the latches it names (section 11.3). -/
def condMask (mask : Byte) : Vector Bool 7 := tab fun c => mask.getLsbD c.val

/-- A soft source named by an accepted operand byte. -/
def softIndex (b : Byte) : Fin 4 := ⟨b.toNat % 4, Nat.mod_lt _ (by decide)⟩

/-- The level named by an accepted operand byte of SET_SOFT (section 11.3). -/
def softLevel (b : Byte) : Level := if b = 0x01#8 then .asserted else .released

/-! ### Response data (sections 11.4 and 11.5) -/

/-- The byte with the given bits, bit 0 first. -/
def packBits : List Bool → Nat
  | [] => 0
  | b :: bs => (if b then 1 else 0) + 2 * packBits bs

/-- A byte from its value. -/
def byteOf (n : Nat) : Byte := BitVec.ofNat 8 n

/-- A 16-bit quantity, low byte first (chapter 11). -/
def word16 (w : BitVec 16) : List Byte := [w.setWidth 8, (w >>> 8).setWidth 8]

/-- The bits of a table of flags, entry 0 first. -/
def flagBits {n : Nat} (v : Fin n → Bool) : List Bool := (List.finRange n).map v

/-- Result code (section 11.4). -/
def Result.code : Result → Byte
  | .ok => 0x00#8
  | .badRequest => 0x01#8
  | .badOperand => 0x02#8
  | .badLength => 0x03#8
  | .notReady => 0x04#8
  | .none => 0x05#8

/-- The bytes of a response (section 11.4). -/
def Response.bytes (r : Response) : List Byte :=
  r.tag :: r.result.code :: byteOf (packBits [r.replacedUnread, r.carriesRecords])
    :: byteOf r.data.length :: r.data

/-- Station state code; RESET and LOADING never stand in a status (R168). -/
def Station.code : Station → Byte
  | .listen => 0x01#8
  | .active => 0x02#8
  | .observer => 0x03#8
  | .reset | .loading => 0x00#8

/-- Line state code (section 11.4). -/
def LineState.code : LineState → Nat
  | .idle => 0
  | .frame => 1
  | .gap => 2
  | .stuck => 3

/-- Host power state code in a status (section 11.4). -/
def HostPower.code : HostPower → Nat
  | .off => 0
  | .sleep => 1
  | .run => 2

/-- Image status bit (section 11.4). -/
def ImageStatus.code : ImageStatus → Nat
  | .ok => 0
  | .fault => 1

/-- Fault reason code (section 11.4). -/
def FaultReason.code : FaultReason → Nat
  | .none => 0
  | .badMarker => 1
  | .badVersion => 2
  | .badCount => 3
  | .noProfile => 4
  | .badSum => 5
  | .badProfile => 6

/-- The 14 bytes of a status (R168, section 11.4). -/
def statusData (s : State) : List Byte :=
  [ s.station.code,
    byteOf (s.lif.line.code + 4 * packBits [s.lif.backoff] + 16 * (hostPower s).code),
    byteOf s.lif.voidCount ]
  ++ word16 s.lif.validCount
  ++ [ byteOf (s.stationCode.toNat + 16 * s.loader.status.code),
       byteOf s.loader.reason.code,
       byteOf (packBits (flagBits s.conds.get ++ [stuckHeld s])),
       byteOf (packBits (flagBits (groupSummary s))),
       byteOf (packBits (flagBits fun p : Fin 8 => (s.patterns.get p).latch)),
       byteOf s.journal.records.length ]
  ++ word16 s.journal.lost
  ++ [byteOf (packBits (flagBits fun k : Fin 4 => (s.soft.get k).bit))]

/-- Ownership code (section 11.4). -/
def Ownership.code : Ownership → Nat
  | .unowned => 0
  | .remote => 1
  | .localOwned => 2

/-- The GET_SLOTS byte of slot `k` (section 11.4). -/
def slotByte (s : State) (k : Fin 48) : Byte :=
  let e := s.slots.get k
  byteOf (e.own.code + 4 * packBits [e.level.bit, e.latch])

/-- Channel state code (section 11.4). -/
def ChanState.code : ChanState → Nat
  | .unused => 0
  | .claiming => 1
  | .owned => 2
  | .conflict => 3
  | .withdrawn => 4

/-- The two GET_CHANNELS bytes of channel `c` (section 11.4). -/
def chanBytes (s : State) (c : Fin 16) : List Byte :=
  let ch := s.chans.get c
  [ byteOf (s.profile.chans.get c).slot.val,
    byteOf (ch.state.code + 8 * packBits [ch.level.bit, ch.sent.bit] + 32 * ch.pending.length) ]

/-- The GET_PATTERNS byte of pattern `p` (section 11.4). -/
def patternByte (s : State) (p : Fin 8) : Byte :=
  let r := s.patterns.get p
  byteOf (r.progress + 8 * packBits [r.latch, r.output.bit])

/-- The soft levels byte of SET_SOFT and PULSE_SOFT (section 11.4). -/
def softByte (s : State) : Byte := byteOf (packBits (flagBits fun k : Fin 4 => (s.soft.get k).bit))

/-- Reset cause code (section 11.5). -/
def ResetCause.code : ResetCause → Nat
  | .power => 0
  | .pin => 1
  | .request => 2

/-- Record kind code (section 11.5). -/
def RecordBody.kind : RecordBody → Nat
  | .start _ _ => 0
  | .slot _ _ _ _ => 1
  | .matched _ _ => 2
  | .line _ => 3
  | .claim _ _ => 4

/-- Record subject byte, FFh for START and LINE (section 11.5). -/
def RecordBody.subject : RecordBody → Byte
  | .start _ _ | .line _ => 0xFF#8
  | .slot k _ _ _ | .claim k _ => byteOf k.val
  | .matched p _ => byteOf p.val

/-- Record byte 4: cause, level and image status (section 11.5). -/
def RecordBody.causeByte : RecordBody → Byte
  | .start cause status => byteOf (cause.code + 16 * status.code)
  | .slot _ level cause _ =>
    byteOf ((match cause with | .frame => 0 | .ownerLost => 1) + 8 * packBits [level.bit])
  | .matched _ _ => byteOf 0
  | .line cause => byteOf (match cause with | .stuck => 0 | .clear => 1 | .backoff => 2)
  | .claim _ cause => byteOf (match cause with | .conflict => 0 | .contest => 1)

/-- The frame stamp a record carries, if it carries one (R138). -/
def RecordBody.stamp : RecordBody → Option (BitVec 16)
  | .slot _ _ _ stamp => some stamp
  | .matched _ stamp => stamp
  | .start _ _ | .line _ | .claim _ _ => none

/-- The nine bytes of a journal record (R180, section 11.5). -/
def Record.bytes (r : Record) : List Byte :=
  word16 r.seq
  ++ [ byteOf (r.body.kind + 16 * packBits [r.body.stamp.isSome, r.lost.isSome]),
       r.body.subject,
       r.body.causeByte ]
  ++ word16 (r.body.stamp.getD 0)
  ++ word16 (r.lost.getD 0)

end Sys2Proof.Machine
end

