-- ==== Sys2Proof/Machine/Port.lean ====
section
/-! DEFINITION. The host port (chapter 10): taking a request, its response, and the reads of that
response. -/

namespace Sys2Proof.Machine

open Sys2Proof

/-- The new response replaces the old one (R166). -/
def respond (r : Response) (s : State) : State :=
  s.setPort
    { s.port with
      buffer := .ready
      response := some { r with replacedUnread := s.port.buffer == .ready }
      handOver := r.carriesRecords }

/-- A refused request, or NOT_READY: no data and no effect but on the response (R167). -/
def refuse (tag : Byte) (result : Result) (s : State) : State :=
  respond
    { tag := tag, result := result, replacedUnread := false, carriesRecords := false, data := [] } s

/-- An accepted request's answer with its data (R167). -/
def answer (tag : Byte) (data : List Byte) (s : State) : State :=
  respond
    { tag := tag, result := .ok, replacedUnread := false, carriesRecords := false, data := data } s

/-- The bytes of a write that the port acknowledges: the first eight (R164). -/
def ackWrite (bytes : Nat) (s : State) : State :=
  s.setPort { s.port with acked := min bytes Config.requestMax }

/-- A write is taken as a request (R166, R167). `rest` are the bytes after the code byte; `act` is what
the request does, and the answer it builds, when it is accepted. Any outstanding
hand-over ends first (R146). -/
def takeRequest (code : Option RequestCode) (rest : List Byte)
    (act : Byte → List Byte → State → State) (s : State) : State :=
  let s := endHandOver (ackWrite (rest.length + 1) s)
  let tag := requestTag rest
  if s.station = .loading then refuse tag .notReady s
  else
    match judgeRequest code rest with
    | .ok => act tag rest.tail s
    | result => refuse tag result s

/-! ### What accepted requests do -/

/-- GET_STATUS (R168). -/
def actGetStatus (tag : Byte) (_ops : List Byte) (s : State) : State := answer tag (statusData s) s

/-- GET_SLOTS (R169). -/
def actGetSlots (tag : Byte) (ops : List Byte) (s : State) : State :=
  let first := (ops.getD 0 0).toNat
  let count := (ops.getD 1 0).toNat
  answer tag (((List.finRange 48).filter (inRange first count)).map (slotByte s)) s

/-- GET_CHANNELS (R169). -/
def actGetChannels (tag : Byte) (ops : List Byte) (s : State) : State :=
  let first := (ops.getD 0 0).toNat
  let count := (ops.getD 1 0).toNat
  answer tag
    (((List.finRange 16).filter fun c => decide (first ≤ c.val) && decide (c.val < first + count)).flatMap
      (chanBytes s)) s

/-- GET_PATTERNS (R170). -/
def actGetPatterns (tag : Byte) (_ops : List Byte) (s : State) : State :=
  answer tag ((List.finRange 8).map (patternByte s)) s

/-- READ_JOURNAL (R144, R170): the oldest records, at most n, are marked and copied. -/
def actReadJournal (tag : Byte) (ops : List Byte) (s : State) : State :=
  let marked := s.journal.records.take (ops.getD 0 0).toNat
  respond
    { tag := tag, result := .ok, replacedUnread := false, carriesRecords := !marked.isEmpty
      data := marked.flatMap Record.bytes }
    (s.setJournal { s.journal with handed := marked.length })

/-- ACK_SLOTS (R54, R171). -/
def actAckSlots (tag : Byte) (ops : List Byte) (s : State) : State :=
  let first := (ops.getD 0 0).toNat
  let count := (ops.getD 1 0).toNat
  answer tag ((heldSlots first count s).map fun k => byteOf k.val) (ackSlotRange first count s)

/-- ACK_CONDITIONS (R120, R171): the only latch that can be reported held is LINE_STUCK, when it is
named and held. -/
def actAckConditions (tag : Byte) (ops : List Byte) (s : State) : State :=
  let mask := condMask (ops.getD 0 0)
  answer tag
    (if mask.get condLineStuck && s.conds.get condLineStuck && stuckHeld s then [0x00#8] else [])
    (clearConds mask s)

/-- ACK_PATTERNS (R112, R171). -/
def actAckPatterns (tag : Byte) (ops : List Byte) (s : State) : State :=
  answer tag [] (ackPatternsMask (ops.getD 0 0) s)

/-- SET_SOFT (R72, R172): the response shows the levels after the change. -/
def actSetSoft (tag : Byte) (ops : List Byte) (s : State) : State :=
  let s := setSoftLevel (softIndex (ops.getD 0 0)) (softLevel (ops.getD 1 0)) s
  answer tag [softByte s] s

/-- PULSE_SOFT (R73, R172): ASSERTED, then RELEASED, within the one event. -/
def actPulseSoft (tag : Byte) (ops : List Byte) (s : State) : State :=
  let k := softIndex (ops.getD 0 0)
  let s := setSoftLevel k .released (setSoftLevel k .asserted s)
  answer tag [softByte s] s

/-! ### Requests, once the port has acknowledged its address (R163) -/

/-- A GET_STATUS write. -/
def requestGetStatus (rest : List Byte) (s : State) : State :=
  takeRequest (some .getStatus) rest actGetStatus s

/-- A GET_SLOTS write. -/
def requestGetSlots (rest : List Byte) (s : State) : State :=
  takeRequest (some .getSlots) rest actGetSlots s

/-- A GET_CHANNELS write. -/
def requestGetChannels (rest : List Byte) (s : State) : State :=
  takeRequest (some .getChannels) rest actGetChannels s

/-- A GET_PATTERNS write. -/
def requestGetPatterns (rest : List Byte) (s : State) : State :=
  takeRequest (some .getPatterns) rest actGetPatterns s

/-- A READ_JOURNAL write. -/
def requestReadJournal (rest : List Byte) (s : State) : State :=
  takeRequest (some .readJournal) rest actReadJournal s

/-- An ACK_SLOTS write. -/
def requestAckSlots (rest : List Byte) (s : State) : State :=
  takeRequest (some .ackSlots) rest actAckSlots s

/-- An ACK_CONDITIONS write. -/
def requestAckConditions (rest : List Byte) (s : State) : State :=
  takeRequest (some .ackConditions) rest actAckConditions s

/-- An ACK_PATTERNS write. -/
def requestAckPatterns (rest : List Byte) (s : State) : State :=
  takeRequest (some .ackPatterns) rest actAckPatterns s

/-- A SET_SOFT write. -/
def requestSetSoft (rest : List Byte) (s : State) : State :=
  takeRequest (some .setSoft) rest actSetSoft s

/-- A PULSE_SOFT write. -/
def requestPulseSoft (rest : List Byte) (s : State) : State :=
  takeRequest (some .pulseSoft) rest actPulseSoft s

/-- A RESTART write (R160, R173): with exactly its two bytes it resets the station, in LOADING too; any
other length is refused, and answered NOT_READY in LOADING (R167). -/
def requestRestart (rest : List Byte) (stn : BitVec 4) (addr : BitVec 2) (s : State) : State :=
  if rest.length = 1 then restartStation stn addr s
  else takeRequest (some .restart) rest (fun _ _ s => s) s

/-- A write whose code byte names no request (R178). -/
def requestUnknown (rest : List Byte) (s : State) : State :=
  takeRequest none rest (fun _ _ s => s) s

/-- A write, by its code byte (R178). -/
def takeWrite (code : Byte) (rest : List Byte) (stn : BitVec 4) (addr : BitVec 2) (s : State) :
    State :=
  match RequestCode.ofByte code with
  | some .getStatus => requestGetStatus rest s
  | some .getSlots => requestGetSlots rest s
  | some .getChannels => requestGetChannels rest s
  | some .getPatterns => requestGetPatterns rest s
  | some .readJournal => requestReadJournal rest s
  | some .ackSlots => requestAckSlots rest s
  | some .ackConditions => requestAckConditions rest s
  | some .ackPatterns => requestAckPatterns rest s
  | some .setSoft => requestSetSoft rest s
  | some .pulseSoft => requestPulseSoft rest s
  | some .restart => requestRestart rest stn addr s
  | none => requestUnknown rest s

/-! ### Reading the response (R165) -/

/-- The bytes of the current response; those of an empty buffer carry result NONE (R165, R179). -/
def Port.responseBytes (p : Port) : List Byte :=
  match p.buffer, p.response with
  | .empty, _ | _, none =>
    Response.bytes
      { tag := 0, result := .none, replacedUnread := false, carriesRecords := false, data := [] }
  | _, some r => r.bytes

/-- The first `n` bytes a read returns: the response from byte 0, then FFh (R165).
DESIGN CHOICE (log 19). -/
def Port.readBytes (p : Port) (n : Nat) : List Byte :=
  p.responseBytes.take n ++ List.replicate (n - p.responseBytes.length) 0xFF#8

/-- A read has reached the end of the response: the handed-over records are removed (R145), and the
buffer is READ (R166). -/
def readToEnd (s : State) : State :=
  let s :=
    if s.port.handOver then
      s.setJournal
        { s.journal with records := s.journal.records.drop s.journal.handed, handed := 0 }
    else s
  s.setPort { s.port with buffer := .read, handOver := false }

/-- A read transaction of `n` bytes, once the port has acknowledged its address (R163, R165). -/
def readResponse (n : Nat) (s : State) : State :=
  let s' := s.setPort { s.port with sent := s.port.readBytes n }
  if !(s.port.buffer == .empty) && decide (s.port.responseBytes.length ≤ n) then readToEnd s'
  else s'

/-! ### The port's side of SDA (R163 to R165) -/

/-- Byte `n` of a read, the first being byte 0: the response's, then FFh (R165). -/
def Port.readByte (p : Port) (n : Nat) : Byte := p.responseBytes.getD n 0xFF#8

/-- What the port does at SDA in one bit of a transaction: it pulls the line low to acknowledge its own
address (R163) and the first eight bytes of a write (R164), and for each 0 that it sends in a read
(R165). Otherwise it leaves SDA alone: in every bit that is the host's, and in a transaction that is
addressed elsewhere or that comes in RESET. DESIGN CHOICE (log 19). -/
def sdaPin (s : State) : BusBit → PinDrive
  | .hosts => .undriven
  | .addressAck dst => openDrain (portAnswers s dst)
  | .writeAck dst n => openDrain (portAnswers s dst && decide (n < Config.requestMax))
  | .readData dst n i => openDrain (portAnswers s dst && !(s.port.readByte n).getLsbD i.val)

/-! ### Meanings -/

/-- GET_STATUS (R168). -/
def execGetStatus (w : PortWrite) (s : State) :
    Host.Outcome State Fault Refusal :=
  .next (addressed w.dst (requestGetStatus w.rest) s)

/-- GET_SLOTS (R169). -/
def execGetSlots (w : PortWrite) (s : State) :
    Host.Outcome State Fault Refusal :=
  .next (addressed w.dst (requestGetSlots w.rest) s)

/-- GET_CHANNELS (R169). -/
def execGetChannels (w : PortWrite) (s : State) :
    Host.Outcome State Fault Refusal :=
  .next (addressed w.dst (requestGetChannels w.rest) s)

/-- GET_PATTERNS (R170). -/
def execGetPatterns (w : PortWrite) (s : State) :
    Host.Outcome State Fault Refusal :=
  .next (addressed w.dst (requestGetPatterns w.rest) s)

/-- READ_JOURNAL (R170). -/
def execReadJournal (w : PortWrite) (s : State) :
    Host.Outcome State Fault Refusal :=
  .next (addressed w.dst (requestReadJournal w.rest) s)

/-- ACK_SLOTS (R54). -/
def execAckSlots (w : PortWrite) (s : State) :
    Host.Outcome State Fault Refusal :=
  .next (addressed w.dst (requestAckSlots w.rest) s)

/-- ACK_CONDITIONS (R120). -/
def execAckConditions (w : PortWrite) (s : State) :
    Host.Outcome State Fault Refusal :=
  .next (addressed w.dst (requestAckConditions w.rest) s)

/-- ACK_PATTERNS (R112). -/
def execAckPatterns (w : PortWrite) (s : State) :
    Host.Outcome State Fault Refusal :=
  .next (addressed w.dst (requestAckPatterns w.rest) s)

/-- SET_SOFT (R72). -/
def execSetSoft (w : PortWrite) (s : State) :
    Host.Outcome State Fault Refusal :=
  .next (addressed w.dst (requestSetSoft w.rest) s)

/-- PULSE_SOFT (R73). -/
def execPulseSoft (w : PortWrite) (s : State) :
    Host.Outcome State Fault Refusal :=
  .next (addressed w.dst (requestPulseSoft w.rest) s)

/-- RESTART (R173). -/
def execRestart (w : PortWrite) (stn : BitVec 4) (addr : BitVec 2) (s : State) :
    Host.Outcome State Fault Refusal :=
  .next (addressed w.dst (requestRestart w.rest stn addr) s)

/-- UNKNOWN_REQUEST (R178). With a code byte that names a request the term stands for no event of this
row and is refused by name. DESIGN CHOICE (log 20). -/
def execUnknownRequest (code : Byte) (w : PortWrite) (s : State) :
    Host.Outcome State Fault Refusal :=
  match RequestCode.ofByte code with
  | none => .next (addressed w.dst (requestUnknown w.rest) s)
  | some _ => .refused .illFormed

/-- RESPONSE_READ (R165). -/
def execResponseRead (r : PortRead) (s : State) : Host.Outcome State Fault Refusal :=
  .next (addressed r.dst (readResponse r.bytes) s)

end Sys2Proof.Machine
end

