-- ==== Sys2Proof/Machine/Frame.lean ====
section
/-! DEFINITION. The end of a frame (R12, R13): a valid frame counted, consumed, applied and delivered;
the census and its completion (chapter 2); a void frame and what it reports. -/

namespace Sys2Proof.Machine

open Sys2Proof

/-! ### Events between two deliveries (R49) -/

/-- An event taken between two deliveries of one frame (R49): what the command of the same name does. -/
def takeMid (e : MidEvent) (s : State) : State :=
  match e with
  | .powerOnReset => supplyFails s
  | .pinReset => resetPinFalls s
  | .fallingEdge => lineFalls s
  | .startPatternEnd run cell => startPatternEnds run cell s
  | .gapComplete => gapCompletes s
  | .frameStart => startFrame s
  | .refreshTimerExpiry => refreshExpires s
  | .backoffTimerExpiry => backoffExpires s
  | .stuckTimerExpiry => stuckExpires s
  | .recoveryTimerExpiry => recoveryExpires s
  | .pinChange i l => pinMoves i l s
  | .filterTimerExpiry i => filterExpires i s
  | .hostPowerPinChange pin l => hostPinMoves pin l s
  | .hostPowerFilterExpiry pin => hostFilterExpires pin s
  | .windowTimerExpiry p => windowExpires p s
  | .holdTimerExpiry p => holdExpires p s
  | .quietTimerExpiry p => quietExpires p s
  | .blinkPhaseCrossing phase => blinkReaches phase s
  | .request code w stn addr => addressed w.dst (takeWrite code w.rest stn addr) s
  | .responseRead r => addressed r.dst (readResponse r.bytes) s
  | .cellSampled x => sampleCell x s

/-- The events taken before one delivery, in turn. -/
def takeMids (es : List MidEvent) (s : State) : State := es.foldl (fun s e => takeMid e s) s

/-- The deliveries of one frame, each whole, with the events taken before each (R46, R49). A reset taken
before a delivery ends the frame's delivery. DESIGN CHOICE (log 10). -/
def deliverAll : List Transition → List (List MidEvent) → State → State
  | [], _, s => s
  | t :: ts, between, s =>
    let s := takeMids (between.headD []) s
    if s.station.delivers then deliverAll ts between.tail (deliver t s) else s

/-! ### A valid frame -/

/-- The line interface at a valid end (R12, R14, R16, R17); the receive record is still held. Which
flags stood at the start is DEDUCED (log 7), and so is that the position, the fault flag and the
contention set keep their values until the next start (log 16). -/
def Lif.endValid (l : Lif) (restartRefresh : Bool) (refresh : Nat) : Lif :=
  { l with
    line := .gap, gapCount := 0, gapLen := Config.shortGap
    refresh := false
    announce := l.announce && !l.announceAtStart
    census := l.census && !l.censusAtStart
    voidCount := 0
    validCount := l.validCount + 1
    refreshTimer := if restartRefresh then .running (10 * refresh) else l.refreshTimer }

/-- The valid end at the line interface. -/
def countValid (s : State) : State :=
  s.setLif (s.lif.endValid (s.station == .active && !(s.profile.refresh == 0)) s.profile.refresh)

/-- The head in flight is consumed and becomes the sent level (R67). -/
def Channel.consume (ch : Channel) : Channel :=
  if ch.state = .owned ∧ ch.inFlight = true then
    { ch with sent := ch.snapshot, pending := ch.pending.tail, inFlight := false }
  else ch

/-- A valid end at the transmit side, in ACTIVE (R67). -/
def consumeHeads (s : State) : State := s.setChans (tab fun c => (s.chans.get c).consume)

/-- The receive record is gone (R8). -/
def discardRecord (s : State) : State := s.setLif s.lif.discard

/-- A valid frame in ACTIVE or OBSERVER, after the line interface and the transmit side (R12): applied
whole, then delivered (R46). -/
def acceptFrame (between : List (List MidEvent)) (s : State) : State :=
  deliverAll (transitions s) between (discardRecord (applyFrame s))

/-! ### The census (R26 to R29) -/

/-- A census frame (R26): progress, and the seen-owned flags of the slots with presence DRIVEN. -/
def countCensus (s : State) : State :=
  s.setOwner
    { s.owner with
      progress := s.owner.progress + 1
      seen := tab fun k => s.owner.seen.get k || s.lif.presence.get k }

/-- The CLAIMING channels whose slot was seen owned, ascending (R28). -/
def conflicting (s : State) : List (Fin 16) :=
  (List.finRange 16).filter fun c =>
    (s.chans.get c).state == .claiming && s.owner.seen.get (s.profile.chans.get c).slot

/-- Every CLAIMING channel is decided (R28). -/
def decideClaims (s : State) : State :=
  s.setChans <| tab fun c =>
    let ch := s.chans.get c
    if ch.state = .claiming then
      { ch with
        state := if s.owner.seen.get (s.profile.chans.get c).slot then .conflict else .owned }
    else ch

/-- The CONFLICT latch and the CLAIM records of a completion, in ascending channel order (R28). -/
def reportConflicts (chans : List (Fin 16)) (s : State) : State :=
  chans.foldl
    (fun s c => generate (.claim (s.profile.chans.get c).slot .conflict) (setCond condConflict s)) s

/-- The completing frame is applied (R44): the claimed slots become LOCAL and RELEASED, the others as
R43 says. -/
def learnWithClaims (s : State) : State :=
  s.setSlots <| tab fun k =>
    if ownedSlot s k then { s.slots.get k with own := .localOwned, level := .released }
    else applySlot false (s.lif.presence.get k) (s.lif.level.get k) (s.slots.get k)

/-- The initial pending list of an OWNED channel (R68). -/
def Channel.startOwned (ch : Channel) : Channel :=
  if ch.state = .owned then
    { ch with
      sent := .released, inFlight := false
      pending := if ch.level = .asserted then [.asserted] else [] }
  else ch

/-- Every OWNED channel starts with its initial list (R29, R68). -/
def startOwnedChannels (s : State) : State :=
  s.setChans (tab fun c => (s.chans.get c).startOwned)

/-- Entry to ACTIVE (R29): ANNOUNCE and the refresh timer. -/
def enterActive (s : State) : State :=
  let s := s.setStation .active
  s.setLif
    { s.lif with
      announce := s.lif.announce || anyOwned s
      refreshTimer := if s.profile.refresh = 0 then .stopped else .running (10 * s.profile.refresh) }

/-- Entry to OBSERVER (R29): every start-request flag is cleared and the refresh timer is stopped. -/
def enterObserver (s : State) : State :=
  let s := s.setStation .observer
  s.setLif { s.lif with refresh := false, announce := false, census := false, refreshTimer := .stopped }

/-- The step out of LISTEN (R29): CENSUS cleared, the census-wait timer stopped, LEVEL latches seeded
(R51), patterns armed (R96), initial lists built (R68). DEDUCED (log 22). -/
def leaveListen (s : State) : State :=
  let s := s.setLif { s.lif with census := false }
  let s := s.setOwner { s.owner with waitTimer := .stopped }
  let s := startOwnedChannels (armPatterns (seedLatches s))
  if s.owner.imageFault then enterObserver s else enterActive s

/-- The census completes (R28, R29). -/
def completeCensus (s : State) : State :=
  leaveListen (learnWithClaims (reportConflicts (conflicting s) (decideClaims s)))

/-- A valid frame in LISTEN (R26, R50). -/
def censusFrame (s : State) : State :=
  let s := countCensus s
  discardRecord (if 2 ≤ s.owner.progress then completeCensus s else learnFrame s)

/-- A valid frame end (R12). -/
def endValid (between : List (List MidEvent)) (s : State) : State :=
  let s := countValid s
  if s.station = .listen then censusFrame s
  else if s.station = .active then acceptFrame between (consumeHeads s)
  else acceptFrame between s

/-! ### A void frame -/

/-- The line interface at a void end (R13, R18). The position, the fault flag and the contention set
keep their values until the next start. DEDUCED (log 16). -/
def Lif.endVoid (l : Lif) : Lif :=
  { l.countVoid.discard with line := .gap, gapCount := 0, gapLen := Config.shortGap }

/-- A void end brings the station into backoff, or restarts it (R18). -/
def voidBacksOff (l : Lif) : Bool := decide (Config.backoffVoids ≤ l.voidCount + 1)

/-- A void frame end (R13): nothing is consumed, contended claims are withdrawn (R34), and backoff is
entered at the eighth (R18). -/
def endVoid (s : State) : State :=
  let s' := withdrawClaims (clearInFlight (s.setLif s.lif.endVoid))
  match voidBacksOff s.lif, (contended s).isEmpty with
  | false, true => s'
  | true, true => reportBackoff s'
  | false, false => reportContest (contended s) s'
  | true, false =>
    eitherOrder Config.backoffRecordFirst reportBackoff (reportContest (contended s)) s'

/-! ### The end of a frame -/

/-- An ambiguous CHECK sample is a cell error at an ACTIVE station (R10). -/
def checkError (s : State) (check : Sample) : Bool :=
  s.station == .active && check == .ambiguous

/-- The CHECK cell has been sampled (R11 to R13). The event does not happen before the frame's last
slot cell. DEDUCED (log 5, log 9). -/
def endFrame (check : Sample) (between : List (List MidEvent)) (s : State) : State :=
  let s' := seeLine check s
  if s.station.onLine && s.lif.line == .frame && s.lif.pos == Config.checkCell then
    let l := s.lif.stuckSees check
    let s' := s'.setLif { l with fault := l.fault || checkError s check }
    if check = .free ∧ s.lif.fault = false then endValid between s' else endVoid s'
  else s'

/-- FRAME_END (R12). -/
def execFrameEnd (check : Sample) (between : List (List MidEvent)) (s : State) :
    Host.Outcome State Fault Refusal :=
  .next (endFrame check between s)

end Sys2Proof.Machine
end

