-- ==== Sys2Proof/Machine/Dispatch.lean ====
section
/-! DEFINITION. The meaning of every command: one arm per constructor of `Instr`. -/

namespace Sys2Proof.Machine

open Sys2Proof

def exec (i : Instr) (s : State) : Host.Outcome State Fault Refusal :=
  match i with
  | .powerOnReset => Sys2Proof.Machine.execPowerOnReset s
  | .pinReset => Sys2Proof.Machine.execPinReset s
  | .resetEnd stn addr => Sys2Proof.Machine.execResetEnd stn addr s
  | .imageByteTaken b => Sys2Proof.Machine.execImageByteTaken b s
  | .fallingEdge => Sys2Proof.Machine.execFallingEdge s
  | .startPatternEnd run cell => Sys2Proof.Machine.execStartPatternEnd run cell s
  | .frameEnd check between => Sys2Proof.Machine.execFrameEnd check between s
  | .gapComplete => Sys2Proof.Machine.execGapComplete s
  | .frameStart => Sys2Proof.Machine.execFrameStart s
  | .refreshTimerExpiry => Sys2Proof.Machine.execRefreshTimerExpiry s
  | .censusWaitExpiry => Sys2Proof.Machine.execCensusWaitExpiry s
  | .backoffTimerExpiry => Sys2Proof.Machine.execBackoffTimerExpiry s
  | .stuckTimerExpiry => Sys2Proof.Machine.execStuckTimerExpiry s
  | .recoveryTimerExpiry => Sys2Proof.Machine.execRecoveryTimerExpiry s
  | .pinChange n level => Sys2Proof.Machine.execPinChange n level s
  | .filterTimerExpiry n => Sys2Proof.Machine.execFilterTimerExpiry n s
  | .hostPowerPinChange pin level => Sys2Proof.Machine.execHostPowerPinChange pin level s
  | .hostPowerFilterExpiry pin => Sys2Proof.Machine.execHostPowerFilterExpiry pin s
  | .windowTimerExpiry p => Sys2Proof.Machine.execWindowTimerExpiry p s
  | .holdTimerExpiry p => Sys2Proof.Machine.execHoldTimerExpiry p s
  | .quietTimerExpiry p => Sys2Proof.Machine.execQuietTimerExpiry p s
  | .blinkPhaseCrossing phase => Sys2Proof.Machine.execBlinkPhaseCrossing phase s
  | .getStatus w => Sys2Proof.Machine.execGetStatus w s
  | .getSlots w => Sys2Proof.Machine.execGetSlots w s
  | .getChannels w => Sys2Proof.Machine.execGetChannels w s
  | .getPatterns w => Sys2Proof.Machine.execGetPatterns w s
  | .readJournal w => Sys2Proof.Machine.execReadJournal w s
  | .ackSlots w => Sys2Proof.Machine.execAckSlots w s
  | .ackConditions w => Sys2Proof.Machine.execAckConditions w s
  | .ackPatterns w => Sys2Proof.Machine.execAckPatterns w s
  | .setSoft w => Sys2Proof.Machine.execSetSoft w s
  | .pulseSoft w => Sys2Proof.Machine.execPulseSoft w s
  | .restart w stn addr => Sys2Proof.Machine.execRestart w stn addr s
  | .unknownRequest code w => Sys2Proof.Machine.execUnknownRequest code w s
  | .responseRead r => Sys2Proof.Machine.execResponseRead r s
  | .cellSampled x => Sys2Proof.Machine.execCellSampled x s

end Sys2Proof.Machine
end

