-- ==== Sys2Proof/Machine/Step.lean ====
section
/-! DEFINITION. The step of the block: the command at the front of the queue is taken; on an empty
queue the block idles (log 2). -/

namespace Sys2Proof.Machine

open Sys2Proof

/-- One step: the command at the front of the queue, run on the state with the queue's rest.
DESIGN CHOICE for the empty queue (log 2). -/
def step (s : State) : Host.Outcome State Fault Refusal :=
  match s.pending with
  | [] => .next s
  | c :: rest => exec c (s.setPending rest)

/-- The command that the word spells put at the front of the queue; no word spells one, since no row of
the opcode table has bits. -/
def State.withFetchWord (s : State) (nbits w : Nat) : State :=
  match decodeTableWord nbits w with
  | some c => s.setPending (c :: s.pending)
  | none => s

end Sys2Proof.Machine
end

