-- ==== Sys2Proof/Safety.lean ====
section
/-! DEFINITION. What holds of a station in every state it can come to: the laws the manual states of
whole blocks, as predicates over State. Each is meant to hold at reset and to be kept by every step. -/

namespace Sys2Proof.Machine

open Sys2Proof

/-! ### Words of the statements -/

/-- The command of a request: its row, with its write, and for RESTART the levels on the strap pins. -/
def requestCommand (code : RequestCode) (w : PortWrite) (stn : BitVec 4)
    (addr : BitVec 2) : Instr :=
  match code with
  | .getStatus => .getStatus w
  | .getSlots => .getSlots w
  | .getChannels => .getChannels w
  | .getPatterns => .getPatterns w
  | .readJournal => .readJournal w
  | .ackSlots => .ackSlots w
  | .ackConditions => .ackConditions w
  | .ackPatterns => .ackPatterns w
  | .setSoft => .setSoft w
  | .pulseSoft => .pulseSoft w
  | .restart => .restart w stn addr

/-- The command of the same name as an event that is taken between two deliveries (R49). -/
def midCommand : MidEvent → Instr
  | .powerOnReset => .powerOnReset
  | .pinReset => .pinReset
  | .fallingEdge => .fallingEdge
  | .startPatternEnd run cell => .startPatternEnd run cell
  | .gapComplete => .gapComplete
  | .frameStart => .frameStart
  | .refreshTimerExpiry => .refreshTimerExpiry
  | .backoffTimerExpiry => .backoffTimerExpiry
  | .stuckTimerExpiry => .stuckTimerExpiry
  | .recoveryTimerExpiry => .recoveryTimerExpiry
  | .pinChange i l => .pinChange i l
  | .filterTimerExpiry i => .filterTimerExpiry i
  | .hostPowerPinChange pin l => .hostPowerPinChange pin l
  | .hostPowerFilterExpiry pin => .hostPowerFilterExpiry pin
  | .windowTimerExpiry p => .windowTimerExpiry p
  | .holdTimerExpiry p => .holdTimerExpiry p
  | .quietTimerExpiry p => .quietTimerExpiry p
  | .blinkPhaseCrossing phase => .blinkPhaseCrossing phase
  | .request code w stn addr =>
    match RequestCode.ofByte code with
    | some c => requestCommand c w stn addr
    | none => .unknownRequest code w
  | .responseRead r => .responseRead r
  | .cellSampled x => .cellSampled x

/-- The operands a request takes (sections 10.3 and 11.3; R168 to R173). -/
def TakesOperands (code : RequestCode) (ops : List Byte) : Prop :=
  match code with
  | .getStatus | .getPatterns | .restart => ops = []
  | .readJournal | .ackConditions | .ackPatterns | .pulseSoft => ops.length = 1
  | .getSlots | .getChannels | .ackSlots | .setSoft => ops.length = 2

/-- The operand values a request accepts, given that it takes so many (sections 10.3 and 11.3; R168 to
R173). -/
def AcceptsOperands (code : RequestCode) (ops : List Byte) : Prop :=
  let a := (ops.getD 0 0).toNat
  let b := (ops.getD 1 0).toNat
  match code with
  | .getStatus | .getPatterns | .restart | .ackPatterns => True
  | .getSlots => a < 48 ∧ 1 ≤ b ∧ b ≤ 16 ∧ a + b ≤ 48
  | .getChannels => a < 16 ∧ 1 ≤ b ∧ b ≤ 16 ∧ a + b ≤ 16
  | .readJournal => 1 ≤ a ∧ a ≤ 4
  | .ackSlots => a < 48 ∧ 1 ≤ b ∧ b ≤ 48 ∧ a + b ≤ 48
  | .ackConditions => a < 128
  | .setSoft => a < 4 ∧ b < 2
  | .pulseSoft => a < 4

/-- The port once a request of `bytes` bytes has been answered (R164 to R166). The bytes last sent and last
acknowledged are the model's own fields (log 19). -/
def Port.answered (p : Port) (bytes : Nat) (tag : Byte) (result : Result) (carries : Bool)
    (data : List Byte) : Port where
  buffer := .ready
  response :=
    some
      { tag := tag, result := result, replacedUnread := p.buffer == .ready
        carriesRecords := carries, data := data }
  handOver := carries
  sent := p.sent
  acked := if bytes < 8 then bytes else 8

/-- The journal with every hand-over ended without removal (R146). -/
def Journal.released (j : Journal) : Journal := { j with handed := 0 }

/-- The journal after one record is generated (R139 to R141). -/
def Journal.taking (j : Journal) (body : RecordBody) : Journal :=
  if j.records.length < 32 then
    { records := j.records ++
        [{ seq := j.seq, body := body, lost := if j.lost = 0 then none else some j.lost }]
      seq := j.seq + 1, lost := 0, handed := j.handed }
  else { records := j.records, seq := j.seq + 1, lost := j.lost + 1, handed := j.handed }

/-- The pattern record stands right after entering step `k`, which is `st` (R94). -/
def Entered (s : State) (k : Nat) (st : Step) (r : PatRec) : Prop :=
  r.progress = k ∧
    match st with
    | .rise _ w | .fall _ w | .anyRise w =>
      r.timer = .stopped ∧ r.window = (if k = 0 ∨ w = 0 then .stopped else .running (10 * w))
    | .hold slot w time =>
      if (s.slots.get slot).level = .asserted then
        r.timer = .hold (10 * time) ∧ r.window = .stopped
      else r.timer = .stopped ∧ r.window = (if k = 0 ∨ w = 0 then .stopped else .running (10 * w))
    | .quiet time => r.timer = .quiet (10 * time) ∧ r.window = .stopped

/-- A channel whose source, standing at `old`, has moved through the given levels one after another
(R60, R61): each level that is a change is taken through the invert flag. What a channel does with one
is `Channel.take` (R62, R64). -/
def Channel.following (ch : Channel) (invert : Bool) (old : Level) : List Level → Channel
  | [] => ch
  | v :: vs =>
    Channel.following (if v = old then ch else ch.take (v.through invert)) invert v vs

/-- Where a source at `old` stands after moving through the given levels. -/
def lastLevel (old : Level) (levels : List Level) : Level := levels.getLast?.getD old

/-- The levels an input's mode output moves through when its filtered level becomes `now` (R81 to
R83). -/
def modeLevels (mode : Mode) (now output : Level) : List Level :=
  match mode, now with
  | .follow, _ => [now]
  | .toggle, .asserted => [if output = .asserted then .released else .asserted]
  | .oneshot, .asserted => [.asserted, .released]
  | .toggle, .released | .oneshot, .released => []

/-- The levels a pattern's output moves through at a completion (R110). -/
def actionLevels (action : Action) (output : Level) : List Level :=
  match action with
  | .none => []
  | .pulse => [.asserted, .released]
  | .toggle => [if output = .asserted then .released else .asserted]
  | .set => [.asserted]

/-- `ch` as channel `c`, once the CONDITIONS source has moved through the given levels (R74). -/
def State.conditionsMove (s : State) (levels : List Level) (c : Fin 16) (ch : Channel) : Channel :=
  if (s.profile.chans.get c).source = .conditions then
    ch.following (s.profile.chans.get c).invert (sourceLevel s .conditions) levels
  else ch

/-- Step `k`, which is `st`, becomes the current step of pattern `p`, and nothing else changes (R94,
R95). -/
def EntersOnly (s : State) (p : Fin 8) (k : Nat) (st : Step) (t : State) : Prop :=
  t = { s with patterns := t.patterns }
    ∧ Entered s k st (t.patterns.get p)
    ∧ (t.patterns.get p).latch = (s.patterns.get p).latch
    ∧ (t.patterns.get p).output = (s.patterns.get p).output
    ∧ ∀ q, q ≠ p → t.patterns.get q = s.patterns.get q

/-- Pattern `p`, whose step 0 is `first`, completes (R108 to R110): its latch, its record with the given
frame stamp, its action on the output and on the channels that name it, its re-arming, and nothing
else but what the record itself does to JOURNAL_LOST. -/
def Completes (s : State) (p : Fin 8) (stamp : Option (BitVec 16)) (first : Step) (t : State) :
    Prop :=
  let cfg := s.profile.patterns.get p
  let levels := actionLevels cfg.action (s.patterns.get p).output
  let lost : Bool := cfg.journal && decide (32 ≤ s.journal.records.length)
  Entered s 0 first (t.patterns.get p)
    ∧ (t.patterns.get p).latch = true
    ∧ (t.patterns.get p).output = lastLevel (s.patterns.get p).output levels
    ∧ (∀ q, q ≠ p → t.patterns.get q = s.patterns.get q)
    ∧ t.journal =
        (if cfg.journal = true then s.journal.taking (.matched p stamp) else s.journal)
    ∧ (∀ c, t.conds.get c = (s.conds.get c || decide (c = condJournalLost) && lost))
    ∧ (∀ c, t.chans.get c =
        let cfg := s.profile.chans.get c
        if cfg.source = .pattern p then
          (s.chans.get c).following cfg.invert (s.patterns.get p).output levels
        else s.conditionsMove (if lost = true then [.asserted] else []) c (s.chans.get c))
    ∧ t =
        { s with
          patterns := t.patterns, journal := t.journal, conds := t.conds, chans := t.chans }

/-- Progress of pattern `p` is reset and the transition `tr` is tried once against step 0 as re-armed
(R95, R99): it may advance to step 1, or start the hold of a waiting HOLD step 0, and nothing more. -/
def ResetsAndRetries (s : State) (p : Fin 8) (tr : Transition) (first : Step) (rest : List Step)
    (t : State) : Prop :=
  (∀ next, first.satisfiedBy tr = true → rest.head? = some next → EntersOnly s p 1 next t)
    ∧ (∀ w time, first = .hold tr.slot w time → tr.level = .asserted →
        t =
          { s with
            patterns := put s.patterns p
              { s.patterns.get p with
                progress := 0, window := .stopped, timer := .hold (10 * time) } })
    ∧ (first.satisfiedBy tr = false ∨ rest = [] →
        (∀ w time, first = .hold tr.slot w time → tr.level = .released) →
        EntersOnly s p 0 first t)

/-! #### The image of a profile (R154, R177, section 11.2) -/

/-- The number in `len` bits of a byte, from bit `lo` up. -/
def fieldOf (b : Byte) (lo len : Nat) : Nat := b.toNat / 2 ^ lo % 2 ^ len

/-- A slot settings byte passes its check. -/
def SlotPasses (b : Byte) : Prop := fieldOf b 0 3 ≤ 4

/-- The settings in a slot settings byte that passes. -/
def SlotReads (b : Byte) (cfg : SlotCfg) : Prop :=
  cfg =
    { kind := match fieldOf b 0 3 with | 0 => .none | 1 => .rise | 2 => .fall | 3 => .both | _ => .level
      attn := b.getLsbD 3, wake := b.getLsbD 4, journal := b.getLsbD 5 }

/-- Source kind and index codes that name a source. -/
def NamesSource (kind idx : Nat) : Prop :=
  kind = 0 ∧ idx < 12 ∨ kind = 1 ∧ idx < 4 ∨ kind = 2 ∧ idx < 8 ∨ kind = 3

/-- The source in its two codes. Codes that name none are kept as they are (log 4). -/
def SourceReads (kind idx : Nat) : Source → Prop
  | .input i => kind = 0 ∧ idx = i.val
  | .soft k => kind = 1 ∧ idx = k.val
  | .pattern p => kind = 2 ∧ idx = p.val
  | .conditions => kind = 3
  | .unnamed k i => ¬ NamesSource kind idx ∧ kind = k.toNat ∧ idx = i.toNat

/-- The two bytes of a channel pass their checks. -/
def ChanPasses (b0 b1 : Byte) : Prop :=
  fieldOf b0 0 6 < 48 ∧ (b0.getLsbD 7 = true → NamesSource (fieldOf b1 0 3) (fieldOf b1 4 4))

/-- The settings in the two bytes of a channel that pass. -/
def ChanReads (b0 b1 : Byte) (cfg : ChanCfg) : Prop :=
  cfg.slot.val = fieldOf b0 0 6 ∧ cfg.invert = b0.getLsbD 6 ∧ cfg.enable = b0.getLsbD 7
    ∧ SourceReads (fieldOf b1 0 3) (fieldOf b1 4 4) cfg.source

/-- An input byte passes its checks. -/
def InputPasses (b : Byte) : Prop := fieldOf b 2 3 ≤ 4 ∧ fieldOf b 5 2 ≤ 2

/-- The settings in an input byte that passes. -/
def InputReads (b : Byte) (cfg : InputCfg) : Prop :=
  cfg =
    { polarity := if b.getLsbD 0 = true then .activeLow else .activeHigh
      domain := if b.getLsbD 1 = true then .main else .standby
      filterMs := match fieldOf b 2 3 with | 0 => 0 | 1 => 1 | 2 => 4 | 3 => 16 | _ => 64
      mode := match fieldOf b 5 2 with | 0 => .follow | 1 => .toggle | _ => .oneshot }

/-- The bytes of a step below the step count pass their checks (R92). -/
def StepPasses (kind slot time : Nat) : Prop :=
  kind ≤ 4 ∧ (kind = 0 ∨ kind = 1 ∨ kind = 3 → slot < 48) ∧ (kind = 3 ∨ kind = 4 → 1 ≤ time)

/-- The step in bytes that pass. -/
def StepReads (kind slot window time : Nat) : Step → Prop
  | .rise k w => kind = 0 ∧ slot = k.val ∧ window = w
  | .fall k w => kind = 1 ∧ slot = k.val ∧ window = w
  | .anyRise w => kind = 2 ∧ window = w
  | .hold k w t => kind = 3 ∧ slot = k.val ∧ window = w ∧ time = t
  | .quiet t => kind = 4 ∧ time = t

/-- The 26 bytes of a pattern pass their checks: the step count, and each step below it. -/
def PatternPasses (byte : Nat → Byte) : Prop :=
  fieldOf (byte 0) 0 3 ≤ 6
    ∧ ∀ k, k < fieldOf (byte 0) 0 3 →
      StepPasses (byte (2 + 4 * k)).toNat (byte (3 + 4 * k)).toNat (byte (5 + 4 * k)).toNat

/-- The settings in the 26 bytes of a pattern that pass. -/
def PatternReads (byte : Nat → Byte) (cfg : PatCfg) : Prop :=
  cfg.strict = !(byte 0).getLsbD 3
    ∧ cfg.action =
      (match fieldOf (byte 0) 4 2 with | 0 => .none | 1 => .pulse | 2 => .toggle | _ => .set)
    ∧ cfg.attn = (byte 1).getLsbD 0 ∧ cfg.wake = (byte 1).getLsbD 1
    ∧ cfg.journal = (byte 1).getLsbD 2
    ∧ cfg.steps.length = fieldOf (byte 0) 0 3
    ∧ ∀ k st, cfg.steps[k]? = some st →
      StepReads (byte (2 + 4 * k)).toNat (byte (3 + 4 * k)).toNat (byte (4 + 4 * k)).toNat
        (byte (5 + 4 * k)).toNat st

/-- The two bytes of an indicator rule entry pass their checks (R130). -/
def RulePasses (b0 b1 : Byte) : Prop :=
  let kind := fieldOf b0 0 3
  (kind = 0 ∨ kind = 6 ∨ (kind = 1 ∨ kind = 2) ∧ b1.toNat < 48 ∨ kind = 3 ∧ b1.toNat < 8
      ∨ kind = 4 ∧ b1.toNat < 7 ∨ kind = 5 ∧ b1.toNat < 3)
    ∧ fieldOf b0 3 3 ≤ 5

/-- The condition in its kind code and operand. -/
def CondReads (kind operand : Nat) : Cond → Prop
  | .none => kind = 0
  | .slotAsserted k => kind = 1 ∧ operand = k.val
  | .latch k => kind = 2 ∧ operand = k.val
  | .matched p => kind = 3 ∧ operand = p.val
  | .condition c => kind = 4 ∧ operand = c.val
  | .host h => kind = 5 ∧ operand = (match h with | .run => 0 | .sleep => 1 | .off => 2)
  | .always => kind = 6

/-- The entry in two bytes that pass. -/
def RuleReads (b0 b1 : Byte) (r : Rule) : Prop :=
  CondReads (fieldOf b0 0 3) b1.toNat r.cond
    ∧ r.display =
      (match fieldOf b0 3 3 with
        | 0 => .off | 1 => .on | 2 => .slow | 3 => .medium | 4 => .fast | _ => .flash)

/-- Every check of R154 on the 329 bytes of a profile. -/
def ProfilePasses (image : List Byte) : Prop :=
  let byte (i : Nat) : Byte := image.getD i 0
  5 ≤ (byte 1).toNat
    ∧ (∀ k : Fin 48, SlotPasses (byte (5 + k.val)))
    ∧ (∀ c : Fin 16, ChanPasses (byte (53 + 2 * c.val)) (byte (54 + 2 * c.val)))
    ∧ (∀ c d : Fin 16, c ≠ d → (byte (53 + 2 * c.val)).getLsbD 7 = true →
        (byte (53 + 2 * d.val)).getLsbD 7 = true →
        fieldOf (byte (53 + 2 * c.val)) 0 6 ≠ fieldOf (byte (53 + 2 * d.val)) 0 6)
    ∧ (∀ i : Fin 12, InputPasses (byte (85 + i.val)))
    ∧ (∀ p : Fin 8, PatternPasses fun i => byte (97 + 26 * p.val + i))
    ∧ ∀ e : Fin 6, RulePasses (byte (305 + 2 * e.val)) (byte (306 + 2 * e.val))
        ∧ RulePasses (byte (317 + 2 * e.val)) (byte (318 + 2 * e.val))

/-- The profile in 329 bytes that pass: each field from its own bits. -/
def ProfileReads (image : List Byte) (p : Profile) : Prop :=
  let byte (i : Nat) : Byte := image.getD i 0
  p.refresh = (byte 0).toNat ∧ p.quiet = (byte 1).toNat
    ∧ (∀ c : Fin 7, p.attnMask.get c = (byte 2).getLsbD c.val
        ∧ p.wakeMask.get c = (byte 3).getLsbD c.val)
    ∧ (∀ n : Fin 2, p.indPolarity.get n =
        if (byte 4).getLsbD n.val = true then .activeLow else .activeHigh)
    ∧ (∀ k : Fin 48, SlotReads (byte (5 + k.val)) (p.slots.get k))
    ∧ (∀ c : Fin 16, ChanReads (byte (53 + 2 * c.val)) (byte (54 + 2 * c.val)) (p.chans.get c))
    ∧ (∀ i : Fin 12, InputReads (byte (85 + i.val)) (p.inputs.get i))
    ∧ (∀ q : Fin 8, PatternReads (fun i => byte (97 + 26 * q.val + i)) (p.patterns.get q))
    ∧ ∀ e : Fin 6,
        RuleReads (byte (305 + 2 * e.val)) (byte (306 + 2 * e.val)) ((p.rules.get 0).get e)
          ∧ RuleReads (byte (317 + 2 * e.val)) (byte (318 + 2 * e.val)) ((p.rules.get 1).get e)

/-- A frame is in progress and its CHECK cell comes next (section 11.1). -/
def State.AtCheck (s : State) : Prop :=
  s.station.onLine = true ∧ s.lif.line = .frame ∧ s.lif.pos = 101

/-- An empty half of the receive record. -/
def allFree : Vector Bool 48 := tab fun _ => false

/-- The level of slot `k` once the frame in the receive record is applied (R43). -/
def State.frameLevel (s : State) (k : Fin 48) : Level :=
  if s.lif.presence.get k = true ∧ s.lif.level.get k = true then .asserted else .released

/-- The slots whose level the frame in the receive record changes, ascending (R45, R46). -/
def State.changedSlots (s : State) : List (Fin 48) :=
  (List.finRange 48).filter fun k => decide (s.frameLevel k ≠ (s.slots.get k).level)

/-- The transition of a changed slot at a valid end (R12, R45): the stamp is the count with this
frame. -/
def State.frameTransition (s : State) (k : Fin 48) : Transition where
  slot := k
  level := s.frameLevel k
  cause := if s.lif.presence.get k = true then .frame else .ownerLost
  stamp := s.lif.validCount + 1

/-- A latch kind is set by a delivered transition to level `v` (section 3.5). -/
def setsLatch (kind : LatchKind) (v : Level) : Bool :=
  match kind with
  | .none => false
  | .rise | .level => decide (v = .asserted)
  | .fall => decide (v = .released)
  | .both => true

/-- At the CHECK cell, `u` is the state with the valid frame taken by the line interface, the transmit
side and the slot table, before its first delivery (R12, R36, R43, R67). The fields that the line
interface keeps between frames are log 16's, the flags that stood at the start log 7's. -/
def State.Applied (s u : State) : Prop :=
  let losses : Bool := decide (∃ k, (s.slots.get k).own = .remote ∧ s.lif.presence.get k = false)
  u.lif =
      { s.lif with
        line := .gap, gapCount := 0, gapLen := 6
        presence := allFree, level := allFree
        refresh := false
        announce := s.lif.announce && !s.lif.announceAtStart
        census := s.lif.census && !s.lif.censusAtStart
        voidCount := 0, validCount := s.lif.validCount + 1
        stuckTimer := .stopped
        refreshTimer :=
          if s.station = .active ∧ s.profile.refresh ≠ 0 then .running (10 * s.profile.refresh)
          else s.lif.refreshTimer }
    ∧ (∀ k, u.slots.get k =
        { s.slots.get k with
          level := s.frameLevel k
          own :=
            if s.lif.presence.get k = false then .unowned
            else if ∃ c, (s.chans.get c).state = .owned ∧ (s.profile.chans.get c).slot = k then
              .localOwned
            else .remote })
    ∧ (∀ c, u.conds.get c = true ↔ s.conds.get c = true ∨ c = condOwnerLost ∧ losses = true)
    ∧ (∀ c, u.chans.get c =
        let ch := s.chans.get c
        let kept : Channel :=
          if s.station = .active ∧ ch.state = .owned ∧ ch.inFlight = true then
            { ch with
              sent := ch.pending.head?.getD ch.sent, pending := ch.pending.tail, inFlight := false }
          else ch
        s.conditionsMove (if losses = true then [.asserted] else []) c kept)
    ∧ u =
        { s with
          pins := { s.pins with evl := .free }
          lif := u.lif, slots := u.slots, conds := u.conds, chans := u.chans }

/-- One transition delivered whole (R46 to R48, R97): the slot's latch, then its SLOT record, then every
pattern in ascending number, each with its whole outcome. -/
def deliveredWhole (tr : Transition) (u : State) : State :=
  let cfg := u.profile.slots.get tr.slot
  let latched :=
    if setsLatch cfg.kind tr.level = true then
      { u with slots := put u.slots tr.slot { u.slots.get tr.slot with latch := true } }
    else u
  let recorded :=
    if cfg.journal = true then generate (.slot tr.slot tr.level tr.cause tr.stamp) latched
    else latched
  (List.finRange 8).foldl (fun v p => patternTake p tr v) recorded

/-- The transitions of a frame delivered one after another, with the events taken before each (R46,
R49). How FRAME_END carries the events is the model's (log 10). -/
def deliveredInTurn : List Transition → List (List MidEvent) → State → State
  | [], _, u => u
  | tr :: trs, between, u =>
    deliveredInTurn trs between.tail
      (deliveredWhole tr ((between.headD []).foldl (fun v e => takeMid e v) u))

/-- The event is a reset of a station on the line whose port has the address `port` (R148, R163,
R173). -/
def isReset (port : BitVec 7) : MidEvent → Bool
  | .powerOnReset | .pinReset => true
  | .request code w _ _ =>
    decide (w.dst = port ∧ RequestCode.ofByte code = some .restart ∧ w.rest.length = 1)
  | _ => false

/-- Channel `c` right after a void end at the transmit side and the withdrawals of the contention found
(R34, R69, R70), before any condition latch is set. -/
def State.voidChannel (s : State) (c : Fin 16) : Channel :=
  let ch := s.chans.get c
  if ch.state = .owned ∧ s.lif.contention.get (s.profile.chans.get c).slot = true then
    { ch with state := .withdrawn, pending := [], inFlight := false }
  else if ch.state = .owned then { ch with inFlight := false }
  else ch

/-! ### The laws -/

/-- The law of one channel's pending list (R63), with what R62, R64 and R65 add: the list is empty,
the opposite of the sent level, or a pulse; only an OWNED channel has one; an OWNED channel's target
is its channel level; a head is in flight only if there is a head. -/
def Channel.Lawful (ch : Channel) : Prop :=
  (ch.pending = [] ∨ ch.pending = [ch.sent.opposite] ∨ ch.pending = [ch.sent.opposite, ch.sent])
    ∧ (ch.state ≠ .owned → ch.pending = [] ∧ ch.inFlight = false)
    ∧ (ch.state = .owned → target ch.sent ch.pending = ch.level)
    ∧ (ch.inFlight = true → ch.pending ≠ [])

/-- Every channel keeps the law of its list, and no channel is OWNED before the census is complete. -/
def State.PendingLaw (s : State) : Prop :=
  (∀ c, (s.chans.get c).Lawful)
    ∧ (s.station.delivers = false → ∀ c, (s.chans.get c).state ≠ .owned)

/-- On the line, every channel's level is its source level through its invert flag (R60). -/
def State.ChannelsFollowSources (s : State) : Prop :=
  s.station.onLine = true → ∀ c, (s.chans.get c).level = effectiveLevel s c

/-- A record follows the one stored before it (R140): its sequence number is that one's plus one plus
its own lost count, modulo 65536. -/
def Record.Follows (r prev : Record) : Prop := r.seq = prev.seq + 1 + r.lost.getD 0

/-- The law of the journal (R138, R140, R144): at most 32 records, each following the one before, the
next sequence number accounting for the records lost since, no lost count of 0, at most 4 records
handed over, and a hand-over outstanding exactly while the response buffer carries one. -/
def State.JournalLaw (s : State) : Prop :=
  s.journal.records.length ≤ 32
    ∧ s.journal.records.IsChain (fun a b => b.Follows a)
    ∧ (∀ r, s.journal.records.getLast? = some r → s.journal.seq = r.seq + 1 + s.journal.lost)
    ∧ (∀ r ∈ s.journal.records, r.lost ≠ some 0)
    ∧ s.journal.handed ≤ 4
    ∧ s.journal.handed ≤ s.journal.records.length
    ∧ (s.port.handOver = true ↔ 0 < s.journal.handed)

/-- The current step of pattern `p`. -/
def currentStep (s : State) (p : Fin 8) : Option Step :=
  (s.profile.patterns.get p).steps[(s.patterns.get p).progress]?

/-- The step is a HOLD step. -/
def Step.isHold : Step → Bool
  | .hold _ _ _ => true
  | _ => false

/-- The step is a QUIET step. -/
def Step.isQuiet : Step → Bool
  | .quiet _ => true
  | _ => false

/-- The law of one pattern's progress and timers (R94, R95): progress is below the step count (or 0 in
a disabled pattern), at most one timer runs, no window runs at progress 0 or in a QUIET step, a hold
timer runs in a HOLD step and a quiet timer in a QUIET step. -/
def PatternLawful (s : State) (p : Fin 8) : Prop :=
  ((s.patterns.get p).progress < (s.profile.patterns.get p).steps.length
      ∨ ((s.patterns.get p).progress = 0 ∧ (s.patterns.get p).timer = .stopped))
    ∧ ((s.patterns.get p).window = .stopped ∨ (s.patterns.get p).timer = .stopped)
    ∧ ((s.patterns.get p).progress = 0 → (s.patterns.get p).window = .stopped)
    ∧ (∀ ms, (s.patterns.get p).timer = .hold ms → (currentStep s p).any Step.isHold = true)
    ∧ (∀ ms, (s.patterns.get p).timer = .quiet ms → (currentStep s p).any Step.isQuiet = true)
    ∧ ((currentStep s p).any Step.isQuiet = true → (s.patterns.get p).window = .stopped)

/-- Every pattern keeps its law, and is at rest before it is armed (R91, R96). -/
def State.PatternLaw (s : State) : Prop :=
  (∀ p, PatternLawful s p)
    ∧ (s.station.delivers = false → ∀ p,
        (s.patterns.get p).progress = 0 ∧ (s.patterns.get p).timer = .stopped)

/-- The law of the pattern outputs (R110, R111): a SET output is ASSERTED exactly while the match latch
is SET, the output of a NONE or PULSE pattern is RELEASED; before arming all latches are CLEAR and all
outputs RELEASED (R91). -/
def State.MatchLaw (s : State) : Prop :=
  (∀ p, (s.profile.patterns.get p).action = .set →
      ((s.patterns.get p).output = .asserted ↔ (s.patterns.get p).latch = true))
    ∧ (∀ p, (s.profile.patterns.get p).action = .none ∨ (s.profile.patterns.get p).action = .pulse →
        (s.patterns.get p).output = .released)
    ∧ (s.station.delivers = false → ∀ p,
        (s.patterns.get p).latch = false ∧ (s.patterns.get p).output = .released)

/-- The law of the slot table (R43, R53, R50): an UNOWNED slot is RELEASED; in ACTIVE and OBSERVER a
LEVEL slot that is ASSERTED has its latch SET; before that every latch is CLEAR. -/
def State.SlotLaw (s : State) : Prop :=
  (∀ k, (s.slots.get k).own = .unowned → (s.slots.get k).level = .released)
    ∧ (s.station.delivers = true → ∀ k, (s.profile.slots.get k).kind = .level →
        (s.slots.get k).level = .asserted → (s.slots.get k).latch = true)
    ∧ (s.station.delivers = false → ∀ k, (s.slots.get k).latch = false)

/-- The law of ownership (R28, R31): a slot is LOCAL exactly when an OWNED channel is bound to it, one
channel at most; and what keeps it so: the profile's enabled channels name distinct slots, only an
enabled channel claims, a station on the fallback profile or still joining owns nothing, and a clean
frame in progress at an ACTIVE station has recorded the presence of every LOCAL slot it has passed. -/
def State.OwnershipLaw (s : State) : Prop :=
  (∀ k, (s.slots.get k).own = .localOwned ↔ ownedSlot s k = true)
    ∧ (∀ c d, (s.chans.get c).state = .owned → (s.chans.get d).state = .owned →
        (s.profile.chans.get c).slot = (s.profile.chans.get d).slot → c = d)
    ∧ slotsDistinct s.profile.chans = true
    ∧ (∀ c, (s.chans.get c).state = .owned ∨ (s.chans.get c).state = .claiming →
        (s.profile.chans.get c).enable = true)
    ∧ (∀ c, (s.chans.get c).state = .owned → s.station = .active)
    ∧ (s.owner.imageFault = true → ∀ c, (s.chans.get c).state = .unused)
    ∧ (s.lif.line = .frame → s.station = .active → s.lif.fault = false → ∀ k : Fin 48,
        (s.slots.get k).own = .localOwned → Config.firstSlotCell + 2 * k.val < s.lif.pos →
          s.lif.presence.get k = true)

/-- The line interface's fields stay in the ranges of section 1.2, and its timers run only where the
manual lets them: backoff exactly while its timer runs, the recovery timer only in LINE_STUCK, the
stuck timer never there, the refresh timer only in ACTIVE; a start pattern is driven by a station in
ACTIVE or LISTEN alone, and no longer than the start pattern lasts. -/
def State.LineLaw (s : State) : Prop :=
  s.lif.gapCount ≤ 104
    ∧ (s.lif.gapLen = 6 ∨ s.lif.gapLen = 104)
    ∧ s.lif.pos ≤ 101
    ∧ s.lif.voidCount ≤ 7
    ∧ s.lif.startDrive ≤ 4
    ∧ (s.lif.backoff = true ↔ s.lif.backoffTimer.isRunning = true)
    ∧ (s.lif.recoveryTimer.isRunning = true → s.lif.line = .stuck)
    ∧ (s.lif.line = .stuck → s.lif.stuckTimer = .stopped)
    ∧ (s.lif.refreshTimer.isRunning = true → s.station = .active)
    ∧ (s.station.onLine = false → s.lif = Lif.default)
    ∧ (0 < s.lif.startDrive →
        (s.lif.line = .idle ∨ s.lif.line = .frame ∧ s.lif.pos < Config.firstSlotCell)
          ∧ (s.station = .active ∨ s.station = .listen))

/-- All the laws together. -/
def State.Lawful (s : State) : Prop :=
  s.PendingLaw ∧ s.ChannelsFollowSources ∧ s.JournalLaw ∧ s.PatternLaw ∧ s.MatchLaw ∧ s.SlotLaw
    ∧ s.OwnershipLaw ∧ s.LineLaw

end Sys2Proof.Machine
end

