-- ==== Sys2Proof/WellFormed.lean ====
section
/-! DEFINITION. Well-formed commands. Operand ranges are carried by the operands' types (a pin
number is a `Fin 12`), so one check is left: the row UNKNOWN_REQUEST stands for a write whose code
byte names no request (R178). -/

namespace Sys2Proof

/-- The command stands for an event of its row. -/
def Instr.wf : Instr → Bool
  | .unknownRequest code _ => (RequestCode.ofByte code).isNone
  | _ => true

end Sys2Proof
end

