-- ==== Sys2Proof/Certificates/Slice0/Obligations.lean ====
section
/-! DEFINITION. The statements for the provers, from the manual's numbered rules. Words that several
statements share are in Safety.lean. "Frame" clauses `t = { s with f := t.f, ... }` say that every field
of the state but those named is as before. -/

open Sys2Proof Sys2Proof.Machine

/-! ### The step -/

/-- A step takes the command at the front of the queue and runs it with the queue's rest. -/
def Obligations.StepRunsFrontCommand : Prop :=
  ∀ (c : Instr) (rest : List Instr) (s : State),
    step (s.setPending (c :: rest)) = exec c (s.setPending rest)

/-- No command touches the queue: what waits behind it is what waited before. -/
def Obligations.ExecLeavesQueue : Prop :=
  ∀ (c : Instr) (s t : State), exec c s = .next t → t.pending = s.pending

/-- Every command that stands for an event of its row completes, in every state; the one ill-formed
term is refused by its name. The refusal is the model's choice (log 20). -/
def Obligations.WellFormedCommandsComplete : Prop :=
  ∀ (c : Instr) (s : State),
    (Instr.wf c = true → ∃ t, exec c s = .next t)
      ∧ (Instr.wf c = false → exec c s = .refused .illFormed)

/-- An event taken between two deliveries of a frame does what the command of its name does; a reset
taken before a delivery ends the frame's delivery, and leaves the reset values (R22, R49), with cause PIN
(R148). An ACK_SLOTS taken right after the first delivery finds that slot latched and the later ones not
yet (R55). A hold timer that expires before the first delivery reads the table with the whole frame
applied: the hold of a slot that has fallen is reset (R105), and one that stands completes before the SLOT
record of the delivery that follows, without a frame stamp, and its hold is armed anew (R94, R108, R109,
R142). How FRAME_END carries the events is the model's
(log 10). -/
def Obligations.MidEventsActAsCommands : Prop :=
  (∀ (e : MidEvent) (s : State), exec (midCommand e) s = .next (takeMid e s))
  ∧ (∀ (s : State) (k : Fin 48), s.AtCheck → s.station = .active ∨ s.station = .observer →
    s.lif.fault = false → s.lif.presence.get k = true → s.lif.level.get k = true →
    (s.slots.get k).level = .released →
    exec (.frameEnd .free [[.pinReset]]) s =
      .next
        { State.reset with
          cause := .pin, pins := { s.pins with evl := .free, resetN := .low }
          freeIndex := s.freeIndex, pending := s.pending })
  ∧ (∀ (s : State) (k : Fin 48) (tag first count : Byte) (stn : BitVec 4) (addr : BitVec 2),
    s.AtCheck → s.station = .active ∨ s.station = .observer → s.lif.fault = false →
    s.changedSlots.head? = some k → 2 ≤ s.changedSlots.length →
    first.toNat < 48 → 1 ≤ count.toNat → count.toNat ≤ 48 → first.toNat + count.toNat ≤ 48 →
    ∃ t, exec (.frameEnd .free [[], [.request 0x10#8 ⟨portAddress s, [tag, first, count]⟩ stn addr]]) s = .next t
      ∧ ∀ i : Fin 48,
        let kind := (s.profile.slots.get i).kind
        let marked := setsLatch kind (s.frameLevel i) = true
        let early := (s.slots.get i).latch = true ∨ i = k ∧ marked
        let covered := first.toNat ≤ i.val ∧ i.val < first.toNat + count.toNat
        let held := kind = .level ∧ s.frameLevel i = .asserted
        ((t.slots.get i).latch = true ↔
          early ∧ (covered → held) ∨ k < i ∧ i ∈ s.changedSlots ∧ marked))
  ∧ (∀ (s : State) (p : Fin 8) (k : Fin 48) (w time ms : Nat),
    s.AtCheck → s.station = .active ∨ s.station = .observer → s.lif.fault = false →
    s.changedSlots = [k] → s.frameLevel k = .released →
    (s.profile.patterns.get p).steps = [.hold k w time] → (s.patterns.get p).progress = 0 →
    (s.patterns.get p).timer = .hold ms →
    ∃ t, exec (.frameEnd .free [[.holdTimerExpiry p]]) s = .next t
      ∧ t.patterns.get p =
        { s.patterns.get p with progress := 0, window := .stopped, timer := .stopped })
  ∧ ∀ (s : State) (p : Fin 8) (j k : Fin 48) (w time ms : Nat),
    s.AtCheck → s.station = .active ∨ s.station = .observer → s.lif.fault = false →
    s.changedSlots = [j] → s.frameLevel k = .asserted → k ≠ j →
    (s.profile.patterns.get p).steps = [.hold k w time] → (s.patterns.get p).progress = 0 →
    (s.patterns.get p).timer = .hold ms →
    (∀ q, q ≠ p → (s.profile.patterns.get q).steps = []) →
    let tr := s.frameTransition j
    let matched :=
      if (s.profile.patterns.get p).journal = true then [RecordBody.matched p none] else []
    let slot :=
      if (s.profile.slots.get j).journal = true then
        [RecordBody.slot j tr.level tr.cause tr.stamp]
      else []
    ∃ t, exec (.frameEnd .free [[.holdTimerExpiry p]]) s = .next t
      ∧ t.journal = (matched ++ slot).foldl Journal.taking s.journal
      ∧ (t.patterns.get p).latch = true ∧ (t.patterns.get p).timer = .hold (10 * time)

/-- Events whose timer is stopped, whose moment has not come or whose state is another change nothing
(the model's reading, log 5), and neither does a step on an empty queue (log 2). A read addressed
elsewhere, or in RESET, is not seen by the port (R163). A START_PATTERN_END outside a start pattern and a
FRAME_END elsewhere than at the CHECK cell record the level that they report of the line and change
nothing else (log 5). -/
def Obligations.EventsThatDoNotHappen : Prop :=
  ∀ s : State,
    (s.pending = [] → step s = .next s)
    ∧ (∀ stn addr, s.station ≠ .reset → exec (.resetEnd stn addr) s = .next s)
    ∧ (∀ b, s.station ≠ .loading → exec (.imageByteTaken b) s = .next s)
    ∧ (s.lif.line ≠ .gap ∨ s.lif.gapCount < s.lif.gapLen → exec .gapComplete s = .next s)
    ∧ (s.lif.line ≠ .idle ∨ s.lif.backoff = true ∨ s.station = .observer →
        exec .frameStart s = .next s)
    ∧ (s.lif.refreshTimer = .stopped → exec .refreshTimerExpiry s = .next s)
    ∧ (s.owner.waitTimer = .stopped → exec .censusWaitExpiry s = .next s)
    ∧ (s.lif.backoffTimer = .stopped → exec .backoffTimerExpiry s = .next s)
    ∧ (s.lif.stuckTimer = .stopped → exec .stuckTimerExpiry s = .next s)
    ∧ (s.lif.recoveryTimer = .stopped → exec .recoveryTimerExpiry s = .next s)
    ∧ (∀ i, (s.inputs.get i).timer = .stopped → exec (.filterTimerExpiry i) s = .next s)
    ∧ (∀ pin, s.host.timer pin = .stopped → exec (.hostPowerFilterExpiry pin) s = .next s)
    ∧ (∀ p, (s.patterns.get p).window = .stopped → exec (.windowTimerExpiry p) s = .next s)
    ∧ (∀ p, (s.patterns.get p).timer = .stopped →
        exec (.holdTimerExpiry p) s = .next s ∧ exec (.quietTimerExpiry p) s = .next s)
    ∧ (∀ phase, s.blink.running = false → exec (.blinkPhaseCrossing phase) s = .next s)
    ∧ (∀ dst n, s.station = .reset ∨ dst ≠ portAddress s → exec (.responseRead ⟨dst, n⟩) s = .next s)
    ∧ (∀ run cell, s.station.onLine = false ∨ s.lif.line ≠ .frame ∨ 5 ≤ s.lif.pos →
        exec (.startPatternEnd run cell) s = .next { s with pins := { s.pins with evl := cell } })
    ∧ (∀ check between, ¬ s.AtCheck →
        exec (.frameEnd check between) s = .next { s with pins := { s.pins with evl := check } })

/-! ### Resets -/

/-- What reset leaves, block by block, where the manual gives the value. -/
def Obligations.ResetValues : Prop :=
  State.reset.station = .reset ∧ State.reset.cause = .power
  ∧ State.reset.lif =
      { line := .idle, gapCount := 0, gapLen := 104, pos := 0, fault := false
        contention := allFree, presence := allFree, level := allFree
        refresh := false, announce := false, census := false
        announceAtStart := false, censusAtStart := false, refreshTimer := .stopped
        voidCount := 0, backoff := false, backoffTimer := .stopped, stuckTimer := .stopped
        recoveryTimer := .stopped, validCount := 0, startDrive := 0 }
  ∧ State.reset.owner =
      { progress := 0, seen := allFree, waitTimer := .stopped, imageFault := false }
  ∧ (∀ k, State.reset.slots.get k = { own := .unowned, level := .released, latch := false })
  ∧ (∀ c, (State.reset.chans.get c).state = .unused
      ∧ (State.reset.chans.get c).level = .released ∧ (State.reset.chans.get c).sent = .released
      ∧ (State.reset.chans.get c).pending = [] ∧ (State.reset.chans.get c).inFlight = false)
  ∧ (∀ k, State.reset.soft.get k = .released)
  ∧ (∀ i, State.reset.inputs.get i =
      { raw := .notSampled, timer := .stopped, filtered := .released, output := .released })
  ∧ hostPower State.reset = .off
  ∧ (∀ p, State.reset.patterns.get p =
      { progress := 0, window := .stopped, timer := .stopped, latch := false, output := .released })
  ∧ (∀ c, State.reset.conds.get c = false)
  ∧ State.reset.blink = { running := false, phase := 0 }
  ∧ State.reset.journal = { records := [], seq := 0, lost := 0, handed := 0 }
  ∧ State.reset.port.buffer = .empty ∧ State.reset.port.response = none
  ∧ State.reset.port.handOver = false
  ∧ State.reset.loader.phase = .idle ∧ State.reset.loader.status = .fault
  ∧ State.reset.loader.reason = .none ∧ State.reset.loader.selected = false
  ∧ drivesLine State.reset = false ∧ attnPin State.reset = .undriven
  ∧ wakePin State.reset = .undriven ∧ (∀ n, indicatorPin State.reset n = .undriven)
  ∧ mcsPin State.reset = .undriven ∧ (∀ half, mckPin State.reset half = .undriven)
  ∧ (∀ n, mdoPin State.reset n = .undriven)
  ∧ sclPin State.reset = .undriven ∧ (∀ bit, sdaPin State.reset bit = .undriven)

/-- The reset commands and the end of RESET (R148, R150, R151), with the address that the port acknowledges
from then on (R163) and the serial memory selected for the read (R149, R151). The pins, the queue and the
free-value counter are the outside world's and the model's; the profile, the codes and the levels that stand in
`State.reset` without a value of the manual are log 1's (and, in that profile, log 26's). -/
def Obligations.ResetCommands : Prop :=
  ∀ s : State,
    exec .powerOnReset s =
      .next
        { State.reset with
          cause := .power, pins := { s.pins with supplyGood := false }
          freeIndex := s.freeIndex, pending := s.pending }
    ∧ exec .pinReset s =
      .next
        { State.reset with
          cause := if s.station = .reset then s.cause else .pin
          pins := { s.pins with resetN := .low }
          freeIndex := s.freeIndex, pending := s.pending }
    ∧ ∀ stn addr, s.station = .reset →
      exec (.resetEnd stn addr) s =
        .next
          { s with
            station := .loading, stationCode := stn, addrCode := addr
            pins := { s.pins with supplyGood := true, resetN := .high, stn := stn, addr := addr }
            host :=
              { hpon := s.pins.hpon, hpawake := s.pins.hpawake
                hponTimer := .stopped, hpawakeTimer := .stopped }
            loader :=
              { phase := .header, pos := 0, count := 0, sum := 0, header := [], retained := []
                status := .fault, reason := .none, selected := true
                sent := [0x03#8, 0x00#8, 0x00#8] } }
      ∧ ∃ t, exec (.resetEnd stn addr) s = .next t
        ∧ mcsPin s = .undriven ∧ mcsPin t = .low ∧ (∀ dst, portAnswers s dst = false)
        ∧ ∀ dst, portAnswers t dst = true ↔ dst.toNat = 0x3A + addr.toNat

/-- A RESTART request of exactly two bytes at the port's address, in LISTEN, ACTIVE, OBSERVER or LOADING:
a reset of kind REQUEST, through RESET into LOADING within the one event, without a response (R150, R160,
R173). The port then answers at the address that the straps sampled in this event give (R163). The
values of log 1 stand in it. -/
def Obligations.RestartCommand : Prop :=
  ∀ (s : State) (tag : Byte) (stn : BitVec 4) (addr : BitVec 2), s.station ≠ .reset →
    ∃ t, exec (.restart ⟨portAddress s, [tag]⟩ stn addr) s = .next t
      ∧ t =
        { State.reset with
          station := .loading, cause := .request, stationCode := stn, addrCode := addr
          pins := { s.pins with supplyGood := true, resetN := .high, stn := stn, addr := addr }
          host :=
            { hpon := s.pins.hpon, hpawake := s.pins.hpawake
              hponTimer := .stopped, hpawakeTimer := .stopped }
          loader :=
            { phase := .header, pos := 0, count := 0, sum := 0, header := [], retained := []
              status := .fault, reason := .none, selected := true
              sent := [0x03#8, 0x00#8, 0x00#8] }
          freeIndex := s.freeIndex, pending := s.pending }
      ∧ mcsPin t = .low ∧ ∀ dst, portAnswers t dst = true ↔ dst.toNat = 0x3A + addr.toNat

/-! ### Start-up -/

/-- The serial memory port in the loader's read, and undriven outside it and in RESET (R149, R151, R161):
MCS low, the clock on MCK, and on MDO the 24 bits of 03h 00h 00h, most significant bit first; the level on
MDO after them is a free value (log 28). Then the image bytes that end nothing: the header byte that passes
its check, and a profile byte before the last (R151 to R153). -/
def Obligations.ImageBytesTaken : Prop :=
  (∀ (s : State) (n : Nat),
    (s.station = .loading → s.loader.selected = true →
      mcsPin s = .low ∧ mckPin s .low = .low ∧ mckPin s .high = .high ∧ mdoPin s n ≠ .undriven
        ∧ (s.loader.sent = [0x03#8, 0x00#8, 0x00#8] → n < 24 →
            (mdoPin s n = .high ↔ (0x030000#24).getLsbD (23 - n) = true)))
    ∧ (s.station ≠ .loading ∨ s.loader.selected = false →
      mcsPin s = .undriven ∧ (∀ half, mckPin s half = .undriven) ∧ mdoPin s n = .undriven))
  ∧ ∀ (s : State) (b : Byte), s.station = .loading →
    (s.loader.phase = .header →
      (s.loader.pos = 0
        ∨ s.loader.pos = 1 ∧ s.loader.header ++ [b] = [0xC7#8, 0x1E#8]
        ∨ s.loader.pos = 2 ∧ b = 0x01#8
        ∨ s.loader.pos = 3 ∧ 1 ≤ b.toNat ∧ b.toNat ≤ 16 ∧ s.stationCode.toNat < b.toNat
        ∨ s.loader.pos = 4 ∨ s.loader.pos = 5) →
      exec (.imageByteTaken b) s =
        .next
          { s with
            loader :=
              { s.loader with
                pos := s.loader.pos + 1
                header := s.loader.header ++ [b]
                count := if s.loader.pos = 3 then b.toNat else s.loader.count
                phase := if s.loader.pos = 5 then .profiles else .header } })
    ∧ (s.loader.phase = .profiles → s.loader.pos + 1 < 6 + 329 * s.loader.count →
      exec (.imageByteTaken b) s =
        .next
          { s with
            loader :=
              { s.loader with
                pos := s.loader.pos + 1
                sum := s.loader.sum + b.setWidth 16
                retained :=
                  if 6 + 329 * s.stationCode.toNat ≤ s.loader.pos
                      ∧ s.loader.pos ≤ 6 + 329 * s.stationCode.toNat + 328 then
                    s.loader.retained ++ [b]
                  else s.loader.retained } })

/-- The header checks fail with the byte that shows it, and LOADING ends on the fallback profile (R152,
R156). What that profile holds beyond R157 is log 26's. -/
def Obligations.ImageHeaderRefused : Prop :=
  ∀ (s : State) (b : Byte) (why : FaultReason), s.station = .loading → s.loader.phase = .header →
    (s.loader.pos = 1 ∧ s.loader.header ++ [b] ≠ [0xC7#8, 0x1E#8] ∧ why = .badMarker
      ∨ s.loader.pos = 2 ∧ b ≠ 0x01#8 ∧ why = .badVersion
      ∨ s.loader.pos = 3 ∧ (b.toNat = 0 ∨ 16 < b.toNat) ∧ why = .badCount
      ∨ s.loader.pos = 3 ∧ 1 ≤ b.toNat ∧ b.toNat ≤ 16 ∧ b.toNat ≤ s.stationCode.toNat
        ∧ why = .noProfile) →
    ∃ t, exec (.imageByteTaken b) s = .next t
      ∧ t.station = .listen ∧ t.profile = fallbackProfile ∧ t.owner.imageFault = true
      ∧ t.conds.get condImageFault = true
      ∧ t.loader =
          { s.loader with
            phase := .done, pos := s.loader.pos + 1, header := s.loader.header ++ [b]
            count := if s.loader.pos = 3 then b.toNat else s.loader.count
            retained := [], status := .fault, reason := why, selected := false }
      ∧ mcsPin t = .undriven ∧ (∀ half, mckPin t half = .undriven) ∧ ∀ n, mdoPin t n = .undriven

/-- The last byte of the last profile decides the image: the sum first, then the retained profile's
fields (R153, R154, R156). What the fallback profile holds beyond R157 is log 26's. -/
def Obligations.ImageVerdict : Prop :=
  ∀ (s : State) (b : Byte), s.station = .loading → s.loader.phase = .profiles →
    s.loader.pos + 1 = 6 + 329 * s.loader.count →
    let sum := s.loader.sum + b.setWidth 16
    let retained :=
      if 6 + 329 * s.stationCode.toNat ≤ s.loader.pos
          ∧ s.loader.pos ≤ 6 + 329 * s.stationCode.toNat + 328 then
        s.loader.retained ++ [b]
      else s.loader.retained
    let checksum := (s.loader.header.getD 4 0).setWidth 16
      + 256#16 * (s.loader.header.getD 5 0).setWidth 16
    ∃ t, exec (.imageByteTaken b) s = .next t
      ∧ t.station = .listen ∧ t.loader.phase = .done ∧ t.loader.selected = false
      ∧ mcsPin t = .undriven ∧ (∀ half, mckPin t half = .undriven) ∧ (∀ n, mdoPin t n = .undriven)
      ∧ (sum ≠ checksum →
          t.loader.status = .fault ∧ t.loader.reason = .badSum ∧ t.profile = fallbackProfile)
      ∧ (sum = checksum → decodeProfile retained = none →
          t.loader.status = .fault ∧ t.loader.reason = .badProfile ∧ t.profile = fallbackProfile)
      ∧ (∀ p, sum = checksum → decodeProfile retained = some p →
          t.loader.status = .ok ∧ t.loader.reason = s.loader.reason ∧ t.profile = p)

/-- The end of LOADING, with whichever profile (R2, R24, R41, R60, R78, R91, R117, R130, R158). An
input that is read takes its first sample with filtered level RELEASED: an active one starts the
filter, or with a filter time of 0 is an activation at once, on which the mode acts; an input that is
not read stays as it is. A line that is not FREE starts the stuck timer (log 12). -/
def Obligations.LoadingEnds : Prop :=
  ∀ (s t : State) (b : Byte), s.station = .loading → exec (.imageByteTaken b) s = .next t →
    t.station ≠ .loading →
    t.station = .listen
    ∧ t.lif =
        { s.lif with
          line := .gap, gapCount := 0, gapLen := 104
          stuckTimer := if s.pins.evl = .free then .stopped else .running 2 }
    ∧ t.owner =
        { progress := 0, seen := allFree, waitTimer := .running t.profile.quiet
          imageFault := t.loader.status == .fault }
    ∧ (∀ c, (t.chans.get c).state =
        if (t.profile.chans.get c).enable = true then .claiming else .unused)
    ∧ (∀ c, (t.chans.get c).level = effectiveLevel t c)
    ∧ (∀ c, (t.chans.get c).sent = (s.chans.get c).sent
        ∧ (t.chans.get c).pending = (s.chans.get c).pending
        ∧ (t.chans.get c).inFlight = (s.chans.get c).inFlight)
    ∧ (∀ i, t.inputs.get i =
        let cfg := t.profile.inputs.get i
        let raw := rawOf cfg.polarity (s.pins.inputs.get i)
        if cfg.domain = .standby ∨ hostPower s ≠ .off then
          { raw := raw
            timer := if raw = .active ∧ cfg.filterMs ≠ 0 then .running cfg.filterMs else .stopped
            filtered := if raw = .active ∧ cfg.filterMs = 0 then .asserted else .released
            output :=
              if raw = .active ∧ cfg.filterMs = 0 then
                lastLevel (s.inputs.get i).output
                  (modeLevels cfg.mode .asserted (s.inputs.get i).output)
              else (s.inputs.get i).output }
        else s.inputs.get i)
    ∧ (s.conds = (tab fun _ => false) → s.journal = { records := [], seq := 0, lost := 0, handed := 0 } →
        (∀ c, t.conds.get c = (decide (c = condImageFault) && t.loader.status == .fault))
        ∧ t.journal =
            { records := [{ seq := 0, body := .start s.cause t.loader.status, lost := none }]
              seq := 1, lost := 0, handed := 0 })
    ∧ t.blink = { running := true, phase := 0 }
    ∧ t =
        { s with
          station := t.station, profile := t.profile, loader := t.loader, lif := t.lif
          owner := t.owner, chans := t.chans, inputs := t.inputs, conds := t.conds
          blink := t.blink, journal := t.journal }

/-- A profile is read from 329 image bytes exactly when every check of R154 passes, and each of its fields is
then read from the bits that section 11.2 gives it (R177); the codes of a disabled channel that name no
source are kept (log 4). Then what holds of every profile read from an image. -/
def Obligations.DecodedProfilesValid : Prop :=
  (∀ (image : List Byte) (p : Profile), image.length = 329 →
    (decodeProfile image = some p ↔ ProfilePasses image ∧ ProfileReads image p))
  ∧ (∀ image : List Byte, image.length = 329 → ProfilePasses image →
    ∃ p, decodeProfile image = some p)
  ∧ ∀ (image : List Byte) (p : Profile), decodeProfile image = some p →
    5 ≤ p.quiet ∧ p.quiet ≤ 255 ∧ p.refresh ≤ 255
    ∧ (∀ c d, (p.chans.get c).enable = true → (p.chans.get d).enable = true →
        (p.chans.get c).slot = (p.chans.get d).slot → c = d)
    ∧ (∀ c kind index, (p.chans.get c).source = .unnamed kind index →
        (p.chans.get c).enable = false)
    ∧ (∀ i, (p.inputs.get i).filterMs ∈ [0, 1, 4, 16, 64])
    ∧ (∀ q, (p.patterns.get q).steps.length ≤ 6)
    ∧ (∀ q st, st ∈ (p.patterns.get q).steps →
        match st with
        | .rise _ w | .fall _ w | .anyRise w => w ≤ 255
        | .hold _ w time => w ≤ 255 ∧ 1 ≤ time ∧ time ≤ 255
        | .quiet time => 1 ≤ time ∧ time ≤ 255)

/-! ### The event line -/

/-- A falling edge, in each line state (R3, R4, R16, R20, R21).
Which flags the frame begins with is the model's reading (log 7), and so are the gap count and the gap
length outside LINE_GAP (log 16). -/
def Obligations.FallingEdge : Prop :=
  ∀ s : State,
    let pins := { s.pins with evl := .driven }
    (s.station.onLine = true →
      (s.lif.line = .idle ∨ s.lif.line = .gap ∧ s.lif.gapLen ≤ s.lif.gapCount + 1) →
      exec .fallingEdge s =
        .next
          { s with
            pins := pins
            lif :=
              { s.lif with
                line := .frame, pos := 0, fault := false
                contention := allFree, presence := allFree, level := allFree
                announceAtStart := s.lif.announce, censusAtStart := s.lif.census
                stuckTimer := .running 2 } })
    ∧ (s.station.onLine = true → s.lif.line = .gap → s.lif.gapCount + 1 < s.lif.gapLen →
      exec .fallingEdge s =
        .next
          { s with
            pins := pins
            lif := { s.lif with gapLen := 104, gapCount := 0, stuckTimer := .running 2 } })
    ∧ (s.station.onLine = true → s.lif.line = .frame →
      exec .fallingEdge s =
        .next { s with pins := pins, lif := { s.lif with stuckTimer := .running 2 } })
    ∧ (s.station.onLine = false ∨ s.lif.line = .stuck →
      exec .fallingEdge s = .next { s with pins := pins })

/-- The end of the start pattern: confirmed, the frame begins, with snapshots in ACTIVE and the
census-wait timer in LISTEN; otherwise it is a false start, which changes no flag and no count (R4, R6,
R25, R65). The tenths of a cell time are the model's (log 8), and so is what the position, the fault
flag and the contention set hold after a false start, and the gap count and length outside LINE_GAP
(log 16). -/
def Obligations.StartPattern : Prop :=
  ∀ (s : State) (run : Nat) (cell : Sample),
    s.station.onLine = true → s.lif.line = .frame → s.lif.pos < 5 →
    let pins := { s.pins with evl := cell }
    (40 ≤ run ∧ run ≤ 50 ∧ cell = .free →
      ∃ t, exec (.startPatternEnd run cell) s = .next t
        ∧ t.lif = { s.lif with pos := 5, startDrive := 0, stuckTimer := .stopped }
        ∧ (∀ c, t.chans.get c =
            if s.station = .active ∧ (s.chans.get c).state = .owned then
              { s.chans.get c with inFlight := decide ((s.chans.get c).pending ≠ []) }
            else s.chans.get c)
        ∧ t.owner =
            (if s.station = .listen then { s.owner with waitTimer := .running s.profile.quiet }
             else s.owner)
        ∧ t = { s with pins := pins, lif := t.lif, chans := t.chans, owner := t.owner })
    ∧ (run < 40 ∨ 50 < run ∨ cell ≠ .free →
      exec (.startPatternEnd run cell) s =
        .next
          { s with
            pins := pins
            lif :=
              { s.lif with
                line := .gap, gapCount := 0, gapLen := 104, startDrive := 0
                presence := allFree, level := allFree
                stuckTimer := if cell = .free then .stopped else s.lif.stuckTimer } })

/-- A station that may start a frame drives the line for four cells; one that may not does nothing
(R5, R15), and neither does one that is driving a start pattern already (log 5). The command and its count
of cells are the model's (log 6). -/
def Obligations.FrameStart : Prop :=
  (∀ s : State, s.lif.startDrive ≠ 0 → exec .frameStart s = .next s)
  ∧ ∀ s : State, s.lif.startDrive = 0 →
    let may : Prop :=
      s.lif.line = .idle ∧ s.lif.backoff = false
        ∧ (s.station = .active
              ∧ ((∃ c, (s.chans.get c).state = .owned ∧ (s.chans.get c).pending ≠ [])
                  ∨ s.lif.refresh = true ∨ s.lif.announce = true)
            ∨ s.station = .listen ∧ s.lif.census = true)
    (may →
      ∃ t, exec .frameStart s = .next t ∧ t = { s with lif := { s.lif with startDrive := 4 } }
        ∧ drivesLine t = true)
    ∧ (¬ may → exec .frameStart s = .next s)

/-- The level that an ACTIVE station carries for a slot it owns (R6, R65): the head of the channel's list
while its mark is set, the channel's sent level otherwise, whatever a source does during the frame. Then a
presence or level cell of slot `k` in the frame in progress (R8 to R10): the record, the position, the fault
flag and the contention set, and nothing else. -/
def Obligations.SlotCells : Prop :=
  (∀ (s : State) (k : Fin 48) (c : Fin 16), s.OwnershipLaw → s.PendingLaw →
    (s.chans.get c).state = .owned → (s.profile.chans.get c).slot = k →
    ((s.chans.get c).inFlight = true → (s.chans.get c).pending.head? = some (slotSnapshot s k))
    ∧ ((s.chans.get c).inFlight = false → slotSnapshot s k = (s.chans.get c).sent)
    ∧ ∀ (src : Source) (v : Level), slotSnapshot (sourceChange src v s) k = slotSnapshot s k)
  ∧ ∀ (s : State) (k : Fin 48) (x : Sample),
    s.station.onLine = true → s.lif.line = .frame →
    let mine := s.station = .active ∧ (s.slots.get k).own = .localOwned
    let pins := { s.pins with evl := x }
    let stuck := if x = .free then Timer.stopped else s.lif.stuckTimer
    (s.lif.pos = 5 + 2 * k.val →
      exec (.cellSampled x) s =
        .next
          { s with
            pins := pins
            lif :=
              { s.lif with
                pos := s.lif.pos + 1
                presence := put s.lif.presence k (decide (x = .driven))
                fault :=
                  s.lif.fault
                    || decide (s.station = .active ∧ x = .ambiguous ∨ mine ∧ x = .free)
                stuckTimer := stuck } })
    ∧ (s.lif.pos = 6 + 2 * k.val →
      exec (.cellSampled x) s =
        .next
          { s with
            pins := pins
            lif :=
              { s.lif with
                pos := s.lif.pos + 1
                level := put s.lif.level k (decide (x = .driven))
                fault :=
                  s.lif.fault
                    || decide
                      (s.station = .active ∧ x = .ambiguous
                        ∨ mine ∧ x = .free ∧ slotSnapshot s k = .asserted
                        ∨ mine ∧ x = .driven ∧ slotSnapshot s k = .released)
                contention :=
                  put s.lif.contention k
                    (s.lif.contention.get k
                      || decide (mine ∧ x = .driven ∧ slotSnapshot s k = .released))
                stuckTimer := stuck } })

/-- The cells outside the slot section: the idle gap and its completion, the recovery timer in
LINE_STUCK, LINE_IDLE (R3, R20, R21), and a station off the line, which samples nothing (section 1.2).
The recovery timer's restart and GAP_COMPLETE are read as log 14 and log 15 say, the gap count and length
after the gap as log 16 does. In the start pattern the position follows the samples (log 8) and the
station's own drive counts down (log 6); the CHECK cell is FRAME_END's, and its sample here moves the
stuck timer alone (log 9). The reported level stands at the pin (log 12). -/
def Obligations.OtherCells : Prop :=
  (∀ (s : State) (x : Sample), s.station.onLine = true →
    let pins := { s.pins with evl := x }
    let stuck := if x = .free then Timer.stopped else s.lif.stuckTimer
    (s.lif.line = .gap → s.lif.gapCount ≤ s.lif.gapLen →
      exec (.cellSampled x) s =
        .next
          { s with
            pins := pins
            lif :=
              { s.lif with
                gapCount :=
                  if x = .free then
                    (if s.lif.gapCount < s.lif.gapLen then s.lif.gapCount + 1 else s.lif.gapCount)
                  else 0
                stuckTimer := stuck } })
    ∧ (s.lif.line = .gap → s.lif.gapLen ≤ s.lif.gapCount →
      exec .gapComplete s = .next { s with lif := { s.lif with line := .idle } })
    ∧ (s.lif.line = .stuck →
      exec (.cellSampled x) s =
        .next
          { s with
            pins := pins
            lif :=
              { s.lif with
                recoveryTimer :=
                  if x = .free ∧ s.lif.recoveryTimer = .stopped then .running 1
                  else if x ≠ .free ∧ s.lif.recoveryTimer ≠ .stopped then .running 1
                  else s.lif.recoveryTimer
                stuckTimer := stuck } })
    ∧ (s.lif.line = .idle →
      exec (.cellSampled x) s =
        .next
          { s with
            pins := pins
            lif := { s.lif with startDrive := s.lif.startDrive - 1, stuckTimer := stuck } })
    ∧ (s.lif.line = .frame → s.lif.pos < 5 →
      exec (.cellSampled x) s =
        .next
          { s with
            pins := pins
            lif :=
              { s.lif with
                pos := if x = .free then 4 else if s.lif.pos < 3 then s.lif.pos + 1 else 3
                startDrive := s.lif.startDrive - 1, stuckTimer := stuck } })
    ∧ (s.lif.line = .frame → s.lif.pos = 101 →
      exec (.cellSampled x) s =
        .next { s with pins := pins, lif := { s.lif with stuckTimer := stuck } }))
  ∧ ∀ (s : State) (x : Sample), s.station.onLine = false →
    exec (.cellSampled x) s = .next { s with pins := { s.pins with evl := x } }

/-- Which cells of a frame a station drives: the cells of its LOCAL slots and its vote, in ACTIVE alone
(R7, R11); the level cell of an owned slot is driven exactly while its channel carries ASSERTED, its head in
flight or its sent level (R6, R65); in RESET, LOADING and OBSERVER it drives nothing at all. -/
def Obligations.CellsDriven : Prop :=
  (∀ s : State, s.lif.line = .frame → s.lif.startDrive = 0 →
    (∀ k : Fin 48, s.lif.pos = 5 + 2 * k.val →
      (drivesLine s = true ↔ s.station = .active ∧ (s.slots.get k).own = .localOwned))
    ∧ (∀ k : Fin 48, s.lif.pos = 6 + 2 * k.val →
      (drivesLine s = true ↔
        s.station = .active ∧ (s.slots.get k).own = .localOwned ∧ slotSnapshot s k = .asserted))
    ∧ (s.lif.pos = 101 → (drivesLine s = true ↔ s.station = .active ∧ s.lif.fault = true))
    ∧ (s.station ≠ .active → drivesLine s = false))
  ∧ (∀ (s : State) (k : Fin 48) (c : Fin 16), s.OwnershipLaw → s.PendingLaw →
    s.lif.line = .frame → s.lif.startDrive = 0 → s.lif.pos = 6 + 2 * k.val →
    (s.chans.get c).state = .owned → (s.profile.chans.get c).slot = k →
    (drivesLine s = true ↔
      (s.chans.get c).inFlight = true ∧ (s.chans.get c).pending.head? = some .asserted
        ∨ (s.chans.get c).inFlight = false ∧ (s.chans.get c).sent = .asserted))
  ∧ ∀ s : State, s.LineLaw → s.station ≠ .active → s.station ≠ .listen → drivesLine s = false

/-- The expiries that raise or lower one flag (R17, R19, R25). -/
def Obligations.LineTimerExpiries : Prop :=
  ∀ (s : State) (ms : Nat),
    (s.station = .active → s.lif.refreshTimer = .running ms →
      exec .refreshTimerExpiry s =
        .next { s with lif := { s.lif with refresh := true, refreshTimer := .stopped } })
    ∧ (s.station = .listen → s.owner.waitTimer = .running ms →
      exec .censusWaitExpiry s =
        .next
          { s with
            lif := { s.lif with census := true }
            owner := { s.owner with waitTimer := .stopped } })
    ∧ (s.station.onLine = true → s.lif.backoffTimer = .running ms →
      exec .backoffTimerExpiry s =
        .next { s with lif := { s.lif with backoff := false, backoffTimer := .stopped } })

/-- Entry to LINE_STUCK from LINE_IDLE or LINE_GAP, and the way out of it (R20, R21, R119). The position,
the fault flag, the contention set, and the gap count and length outside LINE_GAP, are log 16's. -/
def Obligations.StuckLine : Prop :=
  ∀ (s : State) (ms : Nat), s.station.onLine = true →
    (s.lif.stuckTimer = .running ms → s.lif.line = .idle ∨ s.lif.line = .gap →
      ∃ t, exec .stuckTimerExpiry s = .next t
        ∧ t.lif =
            { s.lif with
              line := .stuck, startDrive := 0, presence := allFree, level := allFree
              stuckTimer := .stopped, recoveryTimer := .stopped }
        ∧ t.journal = s.journal.taking (.line .stuck)
        ∧ (∀ c, t.conds.get c =
            (s.conds.get c || decide (c = condLineStuck)
              || decide (c = condJournalLost ∧ 32 ≤ s.journal.records.length)))
        ∧ stuckHeld t = true ∧ drivesLine t = false
        ∧ (∀ c, t.chans.get c = s.conditionsMove [.asserted] c (s.chans.get c))
        ∧ t = { s with lif := t.lif, journal := t.journal, conds := t.conds, chans := t.chans })
    ∧ (s.lif.recoveryTimer = .running ms → s.lif.line = .stuck →
      ∃ t, exec .recoveryTimerExpiry s = .next t
        ∧ t.lif = { s.lif with line := .idle, recoveryTimer := .stopped }
        ∧ t.journal = s.journal.taking (.line .clear)
        ∧ (∀ c, t.conds.get c =
            (s.conds.get c || decide (c = condJournalLost ∧ 32 ≤ s.journal.records.length)))
        ∧ stuckHeld t = false
        ∧ (∀ c, t.chans.get c =
            s.conditionsMove (if 32 ≤ s.journal.records.length then [.asserted] else []) c
              (s.chans.get c))
        ∧ t = { s with lif := t.lif, journal := t.journal, conds := t.conds, chans := t.chans })

/-- Entry to LINE_STUCK during a frame (R20, R35, R69, R143): a void end to the transmit side, the
withdrawals of the contention found so far, and no count changed. The position, the fault flag and the
contention set afterwards, and the gap count and length, are log 16's. -/
def Obligations.StuckInFrame : Prop :=
  ∀ (s : State) (ms : Nat), s.station.onLine = true → s.lif.stuckTimer = .running ms →
    s.lif.line = .frame →
    let contended := (List.finRange 48).filter fun k => s.lif.contention.get k
    let claims := contended.map fun k => RecordBody.claim k .contest
    ∃ t, exec .stuckTimerExpiry s = .next t
      ∧ t.lif =
          { s.lif with
            line := .stuck, startDrive := 0, presence := allFree, level := allFree
            stuckTimer := .stopped, recoveryTimer := .stopped }
      ∧ t.conds.get condLineStuck = true
      ∧ (contended ≠ [] → t.conds.get condContest = true)
      ∧ (∀ c, t.conds.get c =
          (s.conds.get c || decide (c = condLineStuck)
            || decide (c = condContest ∧ contended ≠ [])
            || decide (c = condJournalLost ∧ 32 < s.journal.records.length + 1 + claims.length)))
      ∧ (∀ c, t.chans.get c = s.conditionsMove [.asserted] c (s.voidChannel c))
      ∧ (t.journal = (RecordBody.line .stuck :: claims).foldl Journal.taking s.journal
          ∨ t.journal = (claims ++ [RecordBody.line .stuck]).foldl Journal.taking s.journal)
      ∧ (∀ c, (s.chans.get c).state = .owned →
          s.lif.contention.get (s.profile.chans.get c).slot = true →
          (t.chans.get c).state = .withdrawn ∧ (t.chans.get c).pending = []
            ∧ (t.chans.get c).inFlight = false ∧ (t.chans.get c).sent = (s.chans.get c).sent)
      ∧ (∀ c, (s.chans.get c).state = .owned →
          s.lif.contention.get (s.profile.chans.get c).slot = false →
          (s.profile.chans.get c).source ≠ .conditions →
          t.chans.get c = { s.chans.get c with inFlight := false })
      ∧ (∀ k, t.slots.get k =
          if s.lif.contention.get k = true ∧ (s.slots.get k).own = .localOwned then
            { s.slots.get k with own := .remote }
          else s.slots.get k)
      ∧ t =
          { s with
            lif := t.lif, journal := t.journal, conds := t.conds, chans := t.chans
            slots := t.slots, freeIndex := t.freeIndex }

/-! ### The frame end -/

/-- A valid frame end in ACTIVE or OBSERVER at the line interface (R12, R14, R16, R17): counts, flags,
timers; and which parts of the station a frame may touch at all.
Which flags stood at the start is log 7's; the position, the fault flag and the contention set
afterwards are log 16's. -/
def Obligations.ValidEndLine : Prop :=
  ∀ s : State, s.AtCheck → s.station = .active ∨ s.station = .observer → s.lif.fault = false →
    ∃ t, exec (.frameEnd .free []) s = .next t
      ∧ t.lif =
          { s.lif with
            line := .gap, gapCount := 0, gapLen := 6
            presence := allFree, level := allFree
            refresh := false
            announce := s.lif.announce && !s.lif.announceAtStart
            census := s.lif.census && !s.lif.censusAtStart
            voidCount := 0, validCount := s.lif.validCount + 1
            stuckTimer := .stopped
            refreshTimer :=
              if s.station = .active ∧ s.profile.refresh ≠ 0 then .running (10 * s.profile.refresh)
              else s.lif.refreshTimer }
      ∧ t =
          { s with
            pins := { s.pins with evl := .free }
            lif := t.lif, slots := t.slots, patterns := t.patterns, conds := t.conds
            chans := t.chans, journal := t.journal }

/-- A valid frame end in ACTIVE or OBSERVER at the slot table: ownership and level of every slot by its
two values (R43), its latch (R52), and OWNER_LOST (R36). -/
def Obligations.ValidEndSlots : Prop :=
  ∀ s : State, s.AtCheck → s.station = .active ∨ s.station = .observer → s.lif.fault = false →
    ∃ t, exec (.frameEnd .free []) s = .next t
      ∧ (∀ k, s.lif.presence.get k = true →
          (t.slots.get k).own =
              (if ∃ c, (s.chans.get c).state = .owned ∧ (s.profile.chans.get c).slot = k then
                .localOwned
              else .remote)
            ∧ ((t.slots.get k).level = .asserted ↔ s.lif.level.get k = true))
      ∧ (∀ k, s.lif.presence.get k = false →
          (t.slots.get k).own = .unowned ∧ (t.slots.get k).level = .released)
      ∧ (∀ k, (t.slots.get k).latch = true ↔
          (s.slots.get k).latch = true
            ∨ (t.slots.get k).level ≠ (s.slots.get k).level
              ∧ (match (s.profile.slots.get k).kind with
                  | .none => False
                  | .rise | .level => (t.slots.get k).level = .asserted
                  | .fall => (t.slots.get k).level = .released
                  | .both => True))
      ∧ (t.conds.get condOwnerLost = true ↔
          s.conds.get condOwnerLost = true
            ∨ ∃ k, (s.slots.get k).own = .remote ∧ s.lif.presence.get k = false)

/-- A valid frame end in ACTIVE at the transmit side (R12, R67): the head in flight becomes the sent
level, every other channel's sent level stands, and no mark is left; a channel that neither a pattern
nor the condition latches feed keeps the levels behind the head. -/
def Obligations.ValidEndHeads : Prop :=
  ∀ s : State, s.AtCheck → s.station = .active → s.lif.fault = false → s.PendingLaw →
    ∃ t, exec (.frameEnd .free []) s = .next t
      ∧ ∀ c, (t.chans.get c).state = (s.chans.get c).state ∧ (t.chans.get c).inFlight = false
        ∧ ((s.chans.get c).inFlight = true →
            (s.chans.get c).pending.head? = some (t.chans.get c).sent)
        ∧ ((s.chans.get c).inFlight = false → (t.chans.get c).sent = (s.chans.get c).sent)
        ∧ ((∀ p, (s.profile.chans.get c).source ≠ .pattern p) →
            (s.profile.chans.get c).source ≠ .conditions →
            (t.chans.get c).level = (s.chans.get c).level
              ∧ (t.chans.get c).pending =
                (if (s.chans.get c).inFlight = true then (s.chans.get c).pending.tail
                 else (s.chans.get c).pending))

/-- The deliveries of a valid frame (R45 to R49, R97, R142): the frame is taken by the line interface,
the transmit side and the slot table, and then each transition, in ascending slot order, reaches its
slot's latch, then the journal, then every pattern in ascending number, each with its whole outcome,
before the next; events that are no resets are taken between two of them. At a station with no pattern
enabled the frame hands the journal one record for each changed slot whose journal enable is on, in
ascending slot order, with its cause and the count of this frame as its stamp. That the whole frame is
applied before the first delivery, OWNER_LOST included, and how FRAME_END carries the events, is the
model's reading (log 10); the fields between frames are log 16's, the flags at the start log 7's. -/
def Obligations.FrameRecords : Prop :=
  (∀ (s : State) (between : List (List MidEvent)), s.AtCheck →
    s.station = .active ∨ s.station = .observer → s.lif.fault = false →
    (∀ es ∈ between, ∀ e ∈ es, isReset (portAddress s) e = false) →
    ∃ u, s.Applied u
      ∧ exec (.frameEnd .free between) s =
        .next (deliveredInTurn (s.changedSlots.map s.frameTransition) between u))
  ∧ ∀ s : State, s.AtCheck → s.station = .active ∨ s.station = .observer → s.lif.fault = false →
    (∀ p, (s.profile.patterns.get p).steps = []) →
    let after (k : Fin 48) : Level :=
      if s.lif.presence.get k = true ∧ s.lif.level.get k = true then .asserted else .released
    let bodies := (List.finRange 48).filterMap fun k =>
      if (s.profile.slots.get k).journal = true ∧ after k ≠ (s.slots.get k).level then
        some
          (RecordBody.slot k (after k)
            (if s.lif.presence.get k = true then .frame else .ownerLost) (s.lif.validCount + 1))
      else none
    ∃ t, exec (.frameEnd .free []) s = .next t
      ∧ t.journal = bodies.foldl Journal.taking s.journal ∧ t.patterns = s.patterns

/-- The first census frame in LISTEN (R14, R16, R26, R50): the count, the seen-owned flags and the slot
table follow the frame silently. Which flags stood at the start is log 7's; the position, the fault flag
and the contention set afterwards are log 16's. -/
def Obligations.CensusFrame : Prop :=
  ∀ s : State, s.AtCheck → s.station = .listen → s.lif.fault = false → s.owner.progress = 0 →
    (∀ c, (s.chans.get c).state ≠ .owned) →
    ∃ t, exec (.frameEnd .free []) s = .next t
      ∧ t.lif =
          { s.lif with
            line := .gap, gapCount := 0, gapLen := 6, presence := allFree, level := allFree
            refresh := false
            announce := s.lif.announce && !s.lif.announceAtStart
            census := s.lif.census && !s.lif.censusAtStart
            voidCount := 0, validCount := s.lif.validCount + 1, stuckTimer := .stopped }
      ∧ t.owner =
          { s.owner with
            progress := 1
            seen := tab fun k => s.owner.seen.get k || s.lif.presence.get k }
      ∧ (∀ k, t.slots.get k =
          { s.slots.get k with
            own := if s.lif.presence.get k = true then .remote else .unowned
            level :=
              if s.lif.presence.get k = true ∧ s.lif.level.get k = true then .asserted
              else .released })
      ∧ t =
          { s with
            pins := { s.pins with evl := .free }, lif := t.lif, owner := t.owner, slots := t.slots }

/-- The second census frame completes the census (R28, R29, R44, R51, R68, R96): every claim is decided,
the claimed slots are LOCAL and RELEASED, LEVEL latches are seeded, the OWNED channels have their
initial lists, and the station enters ACTIVE, or OBSERVER when the image failed. Which flags stood at
the start is log 7's, and what the position, the fault flag and the contention set hold afterwards is log
16's; that an initial list is built on the way to OBSERVER too, in a state in which the image failed and yet
a channel claims, is log 22's. -/
def Obligations.CensusCompletion : Prop :=
  ∀ s : State, s.AtCheck → s.station = .listen → s.lif.fault = false → s.owner.progress = 1 →
    (∀ c, (s.chans.get c).state ≠ .owned) →
    let seen (k : Fin 48) : Bool := s.owner.seen.get k || s.lif.presence.get k
    let wins (c : Fin 16) : Prop :=
      (s.chans.get c).state = .claiming ∧ seen (s.profile.chans.get c).slot = false
    let loses (c : Fin 16) : Prop :=
      (s.chans.get c).state = .claiming ∧ seen (s.profile.chans.get c).slot = true
    let lost := (List.finRange 16).filter fun c =>
      (s.chans.get c).state == .claiming && seen (s.profile.chans.get c).slot
    ∃ t, exec (.frameEnd .free []) s = .next t
      ∧ t.station = (if s.owner.imageFault = true then .observer else .active)
      ∧ (∀ c, wins c →
          (t.chans.get c).state = .owned ∧ (t.chans.get c).sent = .released
            ∧ (t.chans.get c).inFlight = false
            ∧ (t.chans.get c).pending =
                (if (t.chans.get c).level = .asserted then [.asserted] else []))
      ∧ (∀ c, loses c → (t.chans.get c).state = .conflict)
      ∧ (∀ c, ¬ wins c → ¬ loses c → (t.chans.get c).state = (s.chans.get c).state)
      ∧ (∀ c, ¬ wins c →
          (t.chans.get c).sent = (s.chans.get c).sent
            ∧ (t.chans.get c).pending = (s.chans.get c).pending
            ∧ (t.chans.get c).inFlight = (s.chans.get c).inFlight)
      ∧ (∀ c, (s.profile.chans.get c).source ≠ .conditions →
          (t.chans.get c).level = (s.chans.get c).level)
      ∧ (∀ c, (s.profile.chans.get c).source = .conditions →
          (∃ d, loses d) → (∀ d, s.conds.get d = false) →
          (t.chans.get c).level = Level.asserted.through (s.profile.chans.get c).invert)
      ∧ (∀ c, (∀ d, ¬ loses d) ∨ (∃ d, s.conds.get d = true) →
          (t.chans.get c).level = (s.chans.get c).level)
      ∧ (∀ d, d ≠ condConflict → d ≠ condJournalLost → t.conds.get d = s.conds.get d)
      ∧ (t.conds.get condJournalLost = true ↔
          s.conds.get condJournalLost = true ∨ 32 - s.journal.records.length < lost.length)
      ∧ (t.conds.get condConflict = true ↔ s.conds.get condConflict = true ∨ ∃ c, loses c)
      ∧ t.journal =
          (lost.map fun c => RecordBody.claim (s.profile.chans.get c).slot .conflict).foldl
            Journal.taking s.journal
      ∧ (∀ k, (∃ c, wins c ∧ (s.profile.chans.get c).slot = k) →
          (t.slots.get k).own = .localOwned ∧ (t.slots.get k).level = .released
            ∧ (t.slots.get k).latch = (s.slots.get k).latch)
      ∧ (∀ k, ¬ (∃ c, wins c ∧ (s.profile.chans.get c).slot = k) →
          (t.slots.get k).own = (if s.lif.presence.get k = true then .remote else .unowned)
            ∧ ((t.slots.get k).level = .asserted ↔
                s.lif.presence.get k = true ∧ s.lif.level.get k = true)
            ∧ (t.slots.get k).latch =
                ((s.slots.get k).latch
                  || decide
                    ((s.profile.slots.get k).kind = .level ∧ (t.slots.get k).level = .asserted)))
      ∧ (∀ p first rest, (s.profile.patterns.get p).steps = first :: rest →
          Entered t 0 first (t.patterns.get p)
            ∧ (t.patterns.get p).latch = (s.patterns.get p).latch
            ∧ (t.patterns.get p).output = (s.patterns.get p).output)
      ∧ (∀ p, (s.profile.patterns.get p).steps = [] → t.patterns.get p = s.patterns.get p)
      ∧ t.owner =
          { progress := 2, seen := tab seen, waitTimer := .stopped
            imageFault := s.owner.imageFault }
      ∧ t.lif =
          { s.lif with
            line := .gap, gapCount := 0, gapLen := 6, presence := allFree, level := allFree
            refresh := false, announce := t.lif.announce, census := false
            refreshTimer := t.lif.refreshTimer
            voidCount := 0, validCount := s.lif.validCount + 1, stuckTimer := .stopped }
      ∧ t.owner.progress = 2 ∧ t.owner.waitTimer = .stopped
      ∧ t.lif.census = false ∧ t.lif.validCount = s.lif.validCount + 1 ∧ t.lif.line = .gap
      ∧ t.lif.gapCount = 0 ∧ t.lif.gapLen = 6 ∧ t.lif.voidCount = 0
      ∧ (s.owner.imageFault = false →
          (t.lif.announce = true ↔
            s.lif.announce = true ∧ s.lif.announceAtStart = false ∨ ∃ c, wins c)
          ∧ t.lif.refreshTimer =
              (if s.profile.refresh = 0 then .stopped else .running (10 * s.profile.refresh)))
      ∧ (s.owner.imageFault = true →
          t.lif.announce = false ∧ t.lif.refresh = false ∧ t.lif.refreshTimer = .stopped)
      ∧ t =
          { s with
            pins := { s.pins with evl := .free }
            station := t.station, lif := t.lif, owner := t.owner, slots := t.slots
            chans := t.chans, patterns := t.patterns, conds := t.conds, journal := t.journal }

/-- A void frame end without contention (R13, R18, R69): nothing is consumed and no slot changes; the
eighth in a row enters backoff. What the position, the fault flag and the contention set hold
afterwards is log 16's. -/
def Obligations.VoidEnd : Prop :=
  ∀ (s : State) (check : Sample) (between : List (List MidEvent)), s.AtCheck →
    check ≠ .free ∨ s.lif.fault = true → (∀ k, s.lif.contention.get k = false) →
    let fault := s.lif.fault || decide (s.station = .active ∧ check = .ambiguous)
    let stuck := if check = .free then Timer.stopped else s.lif.stuckTimer
    (s.lif.voidCount < 7 →
      exec (.frameEnd check between) s =
        .next
          { s with
            pins := { s.pins with evl := check }
            chans := tab fun c =>
              if (s.chans.get c).state = .owned then { s.chans.get c with inFlight := false }
              else s.chans.get c
            lif :=
              { s.lif with
                line := .gap, gapCount := 0, gapLen := 6, presence := allFree, level := allFree
                fault := fault, voidCount := s.lif.voidCount + 1, stuckTimer := stuck } })
    ∧ (7 ≤ s.lif.voidCount →
      ∃ t, exec (.frameEnd check between) s = .next t
        ∧ t.lif =
            { s.lif with
              line := .gap, gapCount := 0, gapLen := 6, presence := allFree, level := allFree
              fault := fault, voidCount := 0, stuckTimer := stuck
              backoff := true, backoffTimer := .running 50 }
        ∧ (∀ c, t.conds.get c =
            (s.conds.get c || decide (c = condBackoff)
              || decide (c = condJournalLost ∧ 32 ≤ s.journal.records.length)))
        ∧ t.journal = s.journal.taking (.line .backoff)
        ∧ (∀ c, t.chans.get c =
            s.conditionsMove [.asserted] c
              (if (s.chans.get c).state = .owned then { s.chans.get c with inFlight := false }
               else s.chans.get c))
        ∧ t =
            { s with
              pins := { s.pins with evl := check }
              chans := t.chans, lif := t.lif, conds := t.conds, journal := t.journal })

/-- A void frame end with contention (R13, R34, R56, R70, R143): the contended claims are withdrawn, and
where the same end enters backoff, its record stands before or after the whole run of CONTEST
records. Every start-request flag and the refresh timer stay as they were. What the position, the fault
flag and the contention set hold afterwards is log 16's. -/
def Obligations.VoidEndWithdraws : Prop :=
  ∀ (s : State) (check : Sample) (between : List (List MidEvent)), s.AtCheck →
    check ≠ .free ∨ s.lif.fault = true →
    let contended := (List.finRange 48).filter fun k => s.lif.contention.get k
    let claims := contended.map fun k => RecordBody.claim k .contest
    contended ≠ [] →
    ∃ t, exec (.frameEnd check between) s = .next t
      ∧ t.conds.get condContest = true
      ∧ t.lif =
          { s.lif with
            line := .gap, gapCount := 0, gapLen := 6, presence := allFree, level := allFree
            fault := s.lif.fault || decide (s.station = .active ∧ check = .ambiguous)
            stuckTimer := if check = .free then .stopped else s.lif.stuckTimer
            voidCount := if s.lif.voidCount < 7 then s.lif.voidCount + 1 else 0
            backoff := if s.lif.voidCount < 7 then s.lif.backoff else true
            backoffTimer := if s.lif.voidCount < 7 then s.lif.backoffTimer else .running 50 }
      ∧ (∀ c, t.conds.get c =
          (s.conds.get c || decide (c = condContest)
            || decide (c = condBackoff ∧ 7 ≤ s.lif.voidCount)
            || decide
              (c = condJournalLost
                ∧ 32 < s.journal.records.length + claims.length
                    + if 7 ≤ s.lif.voidCount then 1 else 0)))
      ∧ (∀ c, t.chans.get c = s.conditionsMove [.asserted] c (s.voidChannel c))
      ∧ (s.lif.voidCount < 7 →
          t.lif.voidCount = s.lif.voidCount + 1 ∧ t.lif.backoff = s.lif.backoff
            ∧ t.journal = claims.foldl Journal.taking s.journal ∧ t.freeIndex = s.freeIndex)
      ∧ (7 ≤ s.lif.voidCount →
          t.lif.voidCount = 0 ∧ t.lif.backoff = true ∧ t.conds.get condBackoff = true
            ∧ (t.journal = (RecordBody.line .backoff :: claims).foldl Journal.taking s.journal
                ∨ t.journal = (claims ++ [RecordBody.line .backoff]).foldl Journal.taking s.journal))
      ∧ (∀ c, (s.chans.get c).state = .owned →
          s.lif.contention.get (s.profile.chans.get c).slot = true →
          (t.chans.get c).state = .withdrawn ∧ (t.chans.get c).pending = []
            ∧ (t.chans.get c).inFlight = false ∧ (t.chans.get c).sent = (s.chans.get c).sent)
      ∧ (∀ c, (s.chans.get c).state = .owned →
          s.lif.contention.get (s.profile.chans.get c).slot = false →
          (s.profile.chans.get c).source ≠ .conditions →
          t.chans.get c = { s.chans.get c with inFlight := false })
      ∧ (∀ k, t.slots.get k =
          if s.lif.contention.get k = true ∧ (s.slots.get k).own = .localOwned then
            { s.slots.get k with own := .remote }
          else s.slots.get k)
      ∧ t.lif.line = .gap ∧ t.lif.gapLen = 6 ∧ t.lif.validCount = s.lif.validCount
      ∧ t =
          { s with
            pins := { s.pins with evl := check }
            lif := t.lif, journal := t.journal, conds := t.conds, chans := t.chans
            slots := t.slots, freeIndex := t.freeIndex }

/-! ### Inputs and host power -/

/-- A pin change of an input (R79, R87, R159): not taken while the input is not read; a reversal stops
the filter; a new level starts it, or passes at once with a filter time of 0, and the mode acts on it
(R81 to R84): the channels that the input feeds take the levels its output moves through, one after
another, and a ONESHOT activation is a pulse in the empty list of an OWNED channel. -/
def Obligations.PinChange : Prop :=
  ∀ (s : State) (i : Fin 12) (l : PinLevel),
    let r := s.inputs.get i
    let cfg := s.profile.inputs.get i
    let raw := rawOf cfg.polarity l
    let pins := { s.pins with inputs := put s.pins.inputs i l }
    let read := s.station.onLine = true ∧ (cfg.domain = .standby ∨ hostPower s ≠ .off)
    let pressed := (if raw = .active then Level.asserted else Level.released)
    let levels := modeLevels cfg.mode pressed r.output
    (¬ read ∨ s.pins.inputs.get i = l → exec (.pinChange i l) s = .next { s with pins := pins })
    ∧ (read → s.pins.inputs.get i ≠ l → pressed = r.filtered →
      exec (.pinChange i l) s =
        .next
          { s with
            pins := pins, inputs := put s.inputs i { r with raw := raw, timer := .stopped } })
    ∧ (read → s.pins.inputs.get i ≠ l → pressed ≠ r.filtered → cfg.filterMs ≠ 0 →
      exec (.pinChange i l) s =
        .next
          { s with
            pins := pins
            inputs := put s.inputs i { r with raw := raw, timer := .running cfg.filterMs } })
    ∧ (read → s.pins.inputs.get i ≠ l → pressed ≠ r.filtered → cfg.filterMs = 0 →
      ∃ t, exec (.pinChange i l) s = .next t
        ∧ t.inputs =
            put s.inputs i
              { raw := raw, timer := .stopped, filtered := pressed
                output := lastLevel r.output levels }
        ∧ (∀ c, t.chans.get c =
            if (s.profile.chans.get c).source = .input i then
              (s.chans.get c).following (s.profile.chans.get c).invert r.output levels
            else s.chans.get c)
        ∧ (∀ c, (s.profile.chans.get c).source = .input i → cfg.mode = .oneshot →
            pressed = .asserted → r.output = .released → (s.chans.get c).state = .owned →
            (s.chans.get c).pending = [] →
            let rest := Level.released.through (s.profile.chans.get c).invert
            (s.chans.get c).level = rest → (s.chans.get c).sent = rest →
            (t.chans.get c).pending = [rest.opposite, rest] ∧ transmit t = true)
        ∧ t = { s with pins := pins, inputs := t.inputs, chans := t.chans })

/-- An input's filter timer expires (R80 to R84): the filtered level takes the raw sample, and the mode
acts on the activation or deactivation: the channels that the input feeds take the levels its output
moves through, one after another, and a ONESHOT activation is a pulse in the empty list of an OWNED
channel. -/
def Obligations.FilterExpiry : Prop :=
  ∀ (s : State) (i : Fin 12) (ms : Nat),
    s.station.onLine = true → (s.inputs.get i).timer = .running ms →
    let r := s.inputs.get i
    let mode := (s.profile.inputs.get i).mode
    let now := (if r.raw = .active then Level.asserted else Level.released)
    let levels := if now = r.filtered then [] else modeLevels mode now r.output
    ∃ t, exec (.filterTimerExpiry i) s = .next t
      ∧ t.inputs =
          put s.inputs i
            { raw := r.raw, timer := .stopped, filtered := now, output := lastLevel r.output levels }
      ∧ (∀ c, t.chans.get c =
          if (s.profile.chans.get c).source = .input i then
            (s.chans.get c).following (s.profile.chans.get c).invert r.output levels
          else s.chans.get c)
      ∧ (∀ c, (s.profile.chans.get c).source = .input i → mode = .oneshot →
          now = .asserted → r.filtered = .released → r.output = .released →
          (s.chans.get c).state = .owned → (s.chans.get c).pending = [] →
          let rest := Level.released.through (s.profile.chans.get c).invert
          (s.chans.get c).level = rest → (s.chans.get c).sent = rest →
          (t.chans.get c).pending = [rest.opposite, rest] ∧ transmit t = true)
      ∧ (∀ c, (s.profile.chans.get c).source = .input i →
          (s.chans.get c).level = effectiveLevel s c → (t.chans.get c).level = effectiveLevel t c)
      ∧ t = { s with inputs := t.inputs, chans := t.chans }

/-- A change at HPON or HPAWAKE (R85, R149): in RESET no pin is read; outside RESET the 1 ms filter
starts, or stops at a reversal. -/
def Obligations.HostPinChange : Prop :=
  ∀ (s : State) (l : PinLevel),
    (s.station = .reset ∨ s.pins.hpon = l →
      exec (.hostPowerPinChange .hpon l) s = .next { s with pins := { s.pins with hpon := l } })
    ∧ (s.station ≠ .reset → s.pins.hpon ≠ l →
      exec (.hostPowerPinChange .hpon l) s =
        .next
          { s with
            pins := { s.pins with hpon := l }
            host :=
              { s.host with hponTimer := if s.host.hpon = l then .stopped else .running 1 } })
    ∧ (s.station = .reset ∨ s.pins.hpawake = l →
      exec (.hostPowerPinChange .hpawake l) s =
        .next { s with pins := { s.pins with hpawake := l } })
    ∧ (s.station ≠ .reset → s.pins.hpawake ≠ l →
      exec (.hostPowerPinChange .hpawake l) s =
        .next
          { s with
            pins := { s.pins with hpawake := l }
            host :=
              { s.host with
                hpawakeTimer := if s.host.hpawake = l then .stopped else .running 1 } })

/-- A host-power filter expires (R85 to R88): the filtered level takes the pin's, the state is decoded
from the two; at HPON, entry to OFF drops every MAIN input, leaving OFF samples every MAIN input afresh,
and no other change reaches an input; the channels that a MAIN input feeds take the levels its output
moves through; HPAWAKE decides between RUN and SLEEP and reaches no input. -/
def Obligations.HostFilterExpiry : Prop :=
  (∀ (s : State) (ms : Nat), s.station ≠ .reset → s.host.hponTimer = .running ms →
    let off := s.pins.hpon = .low
    let wasOff := s.host.hpon = .low
    ∃ t, exec (.hostPowerFilterExpiry .hpon) s = .next t
      ∧ t.host = { s.host with hpon := s.pins.hpon, hponTimer := .stopped }
      ∧ hostPower t =
          (if s.pins.hpon = .low then .off else if s.host.hpawake = .high then .run else .sleep)
      ∧ (∀ i, (s.profile.inputs.get i).domain = .standby → t.inputs.get i = s.inputs.get i)
      ∧ (s.station.onLine = true → off → ¬ wasOff →
          ∀ i, (s.profile.inputs.get i).domain = .main →
            t.inputs.get i =
              { raw := .notSampled, timer := .stopped, filtered := .released, output := .released })
      ∧ (s.station.onLine = true → ¬ off → wasOff →
          ∀ i, (s.profile.inputs.get i).domain = .main →
            let raw := rawOf (s.profile.inputs.get i).polarity (s.pins.inputs.get i)
            let filterMs := (s.profile.inputs.get i).filterMs
            (t.inputs.get i).raw = raw
              ∧ (t.inputs.get i).timer =
                  (if raw = .active ∧ filterMs ≠ 0 then .running filterMs else .stopped)
              ∧ (t.inputs.get i).filtered =
                  (if raw = .active ∧ filterMs = 0 then .asserted else .released)
              ∧ (t.inputs.get i).output =
                  (if raw = .active ∧ filterMs = 0 then
                    lastLevel (s.inputs.get i).output
                      (modeLevels (s.profile.inputs.get i).mode .asserted (s.inputs.get i).output)
                   else (s.inputs.get i).output))
      ∧ (∀ c i, (s.profile.chans.get c).source = .input i →
          (s.profile.inputs.get i).domain = .main → s.station.onLine = true → off → ¬ wasOff →
          t.chans.get c =
            (s.chans.get c).following (s.profile.chans.get c).invert (s.inputs.get i).output
              [.released])
      ∧ (∀ c i, (s.profile.chans.get c).source = .input i →
          (s.profile.inputs.get i).domain = .main → s.station.onLine = true → ¬ off → wasOff →
          let cfg := s.profile.inputs.get i
          t.chans.get c =
            (s.chans.get c).following (s.profile.chans.get c).invert (s.inputs.get i).output
              (if rawOf cfg.polarity (s.pins.inputs.get i) = .active ∧ cfg.filterMs = 0 then
                modeLevels cfg.mode .asserted (s.inputs.get i).output
               else []))
      ∧ (∀ c, (∀ i, (s.profile.chans.get c).source = .input i →
            (s.profile.inputs.get i).domain = .standby) → t.chans.get c = s.chans.get c)
      ∧ ((off ↔ wasOff) ∨ s.station.onLine = false → t = { s with host := t.host })
      ∧ t = { s with host := t.host, inputs := t.inputs, chans := t.chans })
  ∧ ∀ (s : State) (ms : Nat), s.station ≠ .reset → s.host.hpawakeTimer = .running ms →
    ∃ t, exec (.hostPowerFilterExpiry .hpawake) s = .next t
      ∧ t = { s with host := { s.host with hpawake := s.pins.hpawake, hpawakeTimer := .stopped } }
      ∧ hostPower t =
          (if s.host.hpon = .low then .off else if s.pins.hpawake = .high then .run else .sleep)

/-! ### Patterns -/

/-- A window expires, and a hold expires with its slot ASSERTED or not (R94, R95, R104, R105). -/
def Obligations.WindowAndHoldExpiry : Prop :=
  ∀ (s : State) (p : Fin 8) (ms : Nat) (first : Step) (rest : List Step),
    s.station = .active ∨ s.station = .observer →
    (s.profile.patterns.get p).steps = first :: rest →
    let r := s.patterns.get p
    ((s.patterns.get p).window = .running ms →
      ∃ t, exec (.windowTimerExpiry p) s = .next t
        ∧ Entered s 0 first (t.patterns.get p)
        ∧ (t.patterns.get p).latch = r.latch ∧ (t.patterns.get p).output = r.output
        ∧ (∀ q, q ≠ p → t.patterns.get q = s.patterns.get q)
        ∧ t = { s with patterns := t.patterns })
    ∧ (∀ k w time, r.timer = .hold ms → (first :: rest)[r.progress]? = some (.hold k w time) →
      ∃ t, exec (.holdTimerExpiry p) s = .next t
        ∧ ((s.slots.get k).level = .released →
            Entered s 0 first (t.patterns.get p)
              ∧ (t.patterns.get p).latch = r.latch ∧ (t.patterns.get p).output = r.output
              ∧ t = { s with patterns := t.patterns })
        ∧ (∀ next, (s.slots.get k).level = .asserted →
            (first :: rest)[r.progress + 1]? = some next →
            Entered s (r.progress + 1) next (t.patterns.get p)
              ∧ (t.patterns.get p).latch = r.latch ∧ (t.patterns.get p).output = r.output
              ∧ t = { s with patterns := t.patterns })
        ∧ ((s.slots.get k).level = .asserted → (first :: rest)[r.progress + 1]? = none →
            Entered s 0 first (t.patterns.get p) ∧ (t.patterns.get p).latch = true)
        ∧ (∀ q, q ≠ p → t.patterns.get q = s.patterns.get q))

/-- A quiet timer expires (R106): the QUIET step is complete, reading no slot; the next step is entered,
or the pattern completes as section 6.6 says, with no frame stamp. -/
def Obligations.QuietExpiry : Prop :=
  ∀ (s : State) (p : Fin 8) (ms : Nat) (first : Step) (rest : List Step),
    s.station = .active ∨ s.station = .observer →
    (s.profile.patterns.get p).steps = first :: rest →
    let r := s.patterns.get p
    r.timer = .quiet ms →
    ∃ t, exec (.quietTimerExpiry p) s = .next t
      ∧ (∀ next, (first :: rest)[r.progress + 1]? = some next →
          EntersOnly s p (r.progress + 1) next t)
      ∧ (rest.length ≤ r.progress → Completes s p none first t)

/-- What a delivered transition does to an enabled pattern (R97 to R103), case by case: it satisfies the
current step; it is unwatched; it is a watched one that satisfies no step, in either mode, for a RISE,
FALL, ANY_RISE, HOLD or QUIET step; or it is a RISE or a FALL on the slot of a HOLD step that waits or
holds. -/
def Obligations.TransitionJudged : Prop :=
  ∀ (s : State) (p : Fin 8) (t : Transition) (first st : Step) (rest : List Step),
    let cfg := s.profile.patterns.get p
    let r := s.patterns.get p
    cfg.steps = first :: rest → cfg.steps[r.progress]? = some st →
    let watched := cfg.watches t.slot
    let s' := patternTake p t s
    (∀ next, st.satisfiedBy t = true → cfg.steps[r.progress + 1]? = some next →
      EntersOnly s p (r.progress + 1) next s')
    ∧ (st.satisfiedBy t = true → cfg.steps[r.progress + 1]? = none →
      Entered s 0 first (s'.patterns.get p) ∧ (s'.patterns.get p).latch = true)
    ∧ (st.satisfiedBy t = false → watched = false → s' = s)
    ∧ (st.isHold = false → st.isQuiet = false → st.satisfiedBy t = false → watched = true →
      cfg.strict = false → s' = s)
    ∧ (st.isHold = false → st.satisfiedBy t = false → watched = true → cfg.strict = true →
      ResetsAndRetries s p t first rest s')
    ∧ (∀ k w time, st = .hold k w time → k ≠ t.slot → watched = true →
      (cfg.strict = false → s' = s)
        ∧ (cfg.strict = true → ResetsAndRetries s p t first rest s'))
    ∧ (∀ w time, st = .hold t.slot w time → t.level = .asserted → r.timer = .stopped →
      s' = { s with
        patterns := put s.patterns p { r with window := .stopped, timer := .hold (10 * time) } })
    ∧ (∀ w time ms, st = .hold t.slot w time → t.level = .asserted → r.timer = .hold ms → s' = s)
    ∧ (∀ w time, st = .hold t.slot w time → t.level = .released → r.timer = .stopped →
      (cfg.strict = false → s' = s)
        ∧ (cfg.strict = true → ResetsAndRetries s p t first rest s'))
    ∧ (∀ w time ms, st = .hold t.slot w time → t.level = .released → r.timer = .hold ms →
      ResetsAndRetries s p t first rest s')
    ∧ (∀ time, st = .quiet time → watched = true → cfg.strict = false →
      s' = { s with patterns := put s.patterns p { r with timer := .quiet (10 * time) } })

/-- A completion (R108 to R110), of a pattern of any number of steps: by a delivered transition, whose
frame stamp the record carries, or by a hold timer, without one. Latch, record, action and re-arming, and
the channels see the source changes of the action. Then the same in full for a pattern whose only step
is QUIET, with the pulse in the empty list of an OWNED channel. -/
def Obligations.PatternCompletes : Prop :=
  (∀ (s : State) (p : Fin 8) (tr : Transition) (first st : Step) (rest : List Step),
    (s.profile.patterns.get p).steps = first :: rest →
    (first :: rest)[(s.patterns.get p).progress]? = some st →
    rest.length ≤ (s.patterns.get p).progress → st.satisfiedBy tr = true →
    Completes s p (some tr.stamp) first (patternTake p tr s))
  ∧ (∀ (s : State) (p : Fin 8) (first : Step) (rest : List Step) (k : Fin 48) (w time ms : Nat),
    s.station = .active ∨ s.station = .observer →
    (s.profile.patterns.get p).steps = first :: rest →
    (first :: rest)[(s.patterns.get p).progress]? = some (.hold k w time) →
    rest.length ≤ (s.patterns.get p).progress → (s.patterns.get p).timer = .hold ms →
    (s.slots.get k).level = .asserted →
    ∃ t, exec (.holdTimerExpiry p) s = .next t ∧ Completes s p none first t)
  ∧ ∀ (s : State) (p : Fin 8) (ms time : Nat),
    s.station = .active ∨ s.station = .observer →
    (s.profile.patterns.get p).steps = [.quiet time] → (s.patterns.get p).progress = 0 →
    (s.patterns.get p).timer = .quiet ms →
    let cfg := s.profile.patterns.get p
    let r := s.patterns.get p
    ∃ t, exec (.quietTimerExpiry p) s = .next t
      ∧ t.patterns =
          put s.patterns p
            { progress := 0, window := .stopped, timer := .quiet (10 * time), latch := true
              output :=
                match cfg.action with
                | .none => r.output
                | .pulse => .released
                | .toggle => if r.output = .asserted then .released else .asserted
                | .set => .asserted }
      ∧ (cfg.journal = false → t.journal = s.journal ∧ t.conds = s.conds)
      ∧ (cfg.journal = true → t.journal = s.journal.taking (.matched p none))
      ∧ (∀ c, (s.profile.chans.get c).source ≠ .pattern p →
          (s.profile.chans.get c).source ≠ .conditions → t.chans.get c = s.chans.get c)
      ∧ (∀ c, (s.profile.chans.get c).source = .pattern p → cfg.action = .pulse →
          r.output = .released → (s.chans.get c).state = .owned → (s.chans.get c).pending = [] →
          (s.profile.chans.get c).invert = false → (s.chans.get c).level = .released →
          (s.chans.get c).sent = .released →
          (t.chans.get c).pending = [.asserted, .released] ∧ transmit t = true)

/-! ### Notification -/

/-- The blink phase, when each kind of condition holds, the indicators' rules and what each display lights
(R130 to R134); on the line each pin is driven at all times. -/
def Obligations.BlinkAndIndicators : Prop :=
  (∀ s : State,
    condHolds s .none = false ∧ condHolds s .always = true
    ∧ (∀ k, condHolds s (.slotAsserted k) = true ↔ (s.slots.get k).level = .asserted)
    ∧ (∀ k, condHolds s (.latch k) = true ↔ (s.slots.get k).latch = true)
    ∧ (∀ p, condHolds s (.matched p) = true ↔ (s.patterns.get p).latch = true)
    ∧ (∀ c, condHolds s (.condition c) = true ↔ s.conds.get c = true)
    ∧ ∀ h, condHolds s (.host h) = true ↔ hostPower s = h)
  ∧ ∀ (s : State) (phase : Fin 2000),
    (s.blink.running = true →
      exec (.blinkPhaseCrossing phase) s = .next { s with blink := { running := true, phase := phase } })
    ∧ (∀ n, s.station.onLine = false →
      selectedDisplay s n = .off ∧ indicatorPin s n = .undriven)
    ∧ (∀ n e, s.station.onLine = true → condHolds s ((s.profile.rules.get n).get e).cond = true →
      (∀ d, d < e → condHolds s ((s.profile.rules.get n).get d).cond = false) →
      selectedDisplay s n = ((s.profile.rules.get n).get e).display)
    ∧ (∀ n, s.station.onLine = true →
      (∀ e, condHolds s ((s.profile.rules.get n).get e).cond = false) → selectedDisplay s n = .off)
    ∧ (∀ n, lit s n = true ↔
      (match selectedDisplay s n with
        | .off => False
        | .on => True
        | .slow => s.blink.phase.val < 1000
        | .medium => s.blink.phase.val % 1000 < 500
        | .fast => s.blink.phase.val % 250 < 125
        | .flash => s.blink.phase.val < 100))
    ∧ (∀ n, s.station.onLine = true →
      (indicatorPin s n = .high ↔
        (lit s n = true ↔ s.profile.indPolarity.get n = .activeHigh))
      ∧ (indicatorPin s n = .low ↔
        (lit s n = true ↔ s.profile.indPolarity.get n = .activeLow)))

/-- ATTN and WAKE (R126): each exactly on its summary and host power state, released in RESET and
LOADING, never both; the summaries over their latches (R123, R124). -/
def Obligations.AttnAndWake : Prop :=
  ∀ s : State,
    (s.station.onLine = true →
      (attnAsserted s = true ↔ hostPower s = .run ∧ attentionSummary s = true)
        ∧ (wakeAsserted s = true ↔
            (hostPower s = .sleep ∨ hostPower s = .off) ∧ wakeSummary s = true))
    ∧ (s.station = .reset ∨ s.station = .loading → attnAsserted s = false ∧ wakeAsserted s = false)
    ∧ ¬ (attnAsserted s = true ∧ wakeAsserted s = true)
    ∧ (attnPin s = (if attnAsserted s = true then .low else .undriven))
    ∧ (wakePin s = (if wakeAsserted s = true then .low else .undriven))
    ∧ (attentionSummary s = true ↔
        (∃ k, (s.slots.get k).latch = true ∧ (s.profile.slots.get k).attn = true)
          ∨ (∃ c, s.conds.get c = true ∧ s.profile.attnMask.get c = true)
          ∨ ∃ p, (s.patterns.get p).latch = true ∧ (s.profile.patterns.get p).attn = true)
    ∧ (wakeSummary s = true ↔
        (∃ k, (s.slots.get k).latch = true ∧ (s.profile.slots.get k).wake = true)
          ∨ (∃ c, s.conds.get c = true ∧ s.profile.wakeMask.get c = true)
          ∨ ∃ p, (s.patterns.get p).latch = true ∧ (s.profile.patterns.get p).wake = true)

/-- An OWNED channel takes a new level (R62): the queue rule's table, the target after it, and TRANSMIT
raised once the list holds a level. -/
def Obligations.QueueRule : Prop :=
  (∀ (ch : Channel) (v : Level), ch.state = .owned → v ≠ ch.level →
    ch.level = target ch.sent ch.pending →
    (ch.pending = [] → (ch.take v).pending = [v])
    ∧ (∀ head, ch.pending = [head] → head ≠ ch.sent →
        (ch.take v).pending = [head, v] ∧ v = ch.sent)
    ∧ (∀ head second, ch.pending = [head, second] → head ≠ ch.sent → second = ch.sent →
        (ch.take v).pending = [head])
    ∧ (ch.Lawful → (ch.take v).Lawful ∧ target ch.sent (ch.take v).pending = v)
    ∧ (ch.take v).level = v ∧ (ch.take v).sent = ch.sent ∧ (ch.take v).inFlight = ch.inFlight)
  ∧ (∀ (ch : Channel) (v : Level), ch.state ≠ .owned → ch.take v = { ch with level := v })
  ∧ ∀ s : State, transmit s = true ↔
      ∃ c, (s.chans.get c).state = .owned ∧ (s.chans.get c).pending ≠ []

/-! ### The host port -/

/-- What the port acknowledges on SDA: its own address and no other, and the first eight bytes of a write
to it; in RESET it drives neither SDA nor SCL (R163, R164). SCL is never driven, by the model's reading
(log 27). A request addressed elsewhere, or in RESET, changes nothing (R163). Requests to the port that are
refused, or answered NOT_READY (R164, R166, R167, R178): the response says why, an outstanding hand-over
ends, and nothing else changes. -/
def Obligations.RefusedRequests : Prop :=
  (∀ (s : State) (dst : BitVec 7) (n : Nat),
    (sdaPin s (.addressAck dst) = .low ↔
        s.station ≠ .reset ∧ dst.toNat = 0x3A + s.addrCode.toNat)
      ∧ sdaPin s (.addressAck 0) = .undriven
      ∧ (sdaPin s (.writeAck dst n) = .low ↔
          s.station ≠ .reset ∧ dst.toNat = 0x3A + s.addrCode.toNat ∧ n < 8)
      ∧ (s.station = .reset → ∀ bit, sdaPin s bit = .undriven) ∧ sclPin s = .undriven)
  ∧ ∀ (s : State) (code : RequestCode) (dst : BitVec 7) (rest : List Byte) (stn : BitVec 4)
      (addr : BitVec 2),
    let c := requestCommand code ⟨dst, rest⟩ stn addr
    let refused (why : Result) : State :=
      { s with
        journal := s.journal.released
        port := s.port.answered (rest.length + 1) (rest.headD 0) why false [] }
    (s.station = .reset ∨ dst ≠ portAddress s →
      exec c s = .next s
        ∧ ∀ b, RequestCode.ofByte b = none → exec (.unknownRequest b ⟨dst, rest⟩) s = .next s)
    ∧ (dst = portAddress s →
      (s.station = .loading → ¬ (code = .restart ∧ rest.length = 1) →
        exec c s = .next (refused .notReady))
      ∧ (s.station.onLine = true → rest = [] ∨ 8 ≤ rest.length →
        exec c s = .next (refused .badLength))
      ∧ (s.station.onLine = true → ¬ TakesOperands code rest.tail →
        exec c s = .next (refused .badLength))
      ∧ (s.station.onLine = true → rest ≠ [] → TakesOperands code rest.tail →
        ¬ AcceptsOperands code rest.tail → exec c s = .next (refused .badOperand))
      ∧ (∀ b, RequestCode.ofByte b = none →
        (s.station = .loading →
          exec (.unknownRequest b ⟨dst, rest⟩) s = .next (refused .notReady))
        ∧ (s.station.onLine = true → rest = [] ∨ 8 ≤ rest.length →
          exec (.unknownRequest b ⟨dst, rest⟩) s = .next (refused .badLength))
        ∧ (s.station.onLine = true → rest ≠ [] → rest.length < 8 →
          exec (.unknownRequest b ⟨dst, rest⟩) s = .next (refused .badRequest))))

/-- GET_STATUS (R57, R168, section 11.4): the fourteen bytes, with the group summaries, and nothing but the
port and the hand-over changes. -/
def Obligations.GetStatus : Prop :=
  ∀ (s : State) (tag : Byte), s.station.onLine = true →
    let bit (b : Bool) (n : Nat) : Nat := if b then 2 ^ n else 0
    ∃ data, exec (.getStatus ⟨portAddress s, [tag]⟩) s =
        .next
          { s with
            journal := s.journal.released
            port := s.port.answered 2 tag .ok false data }
      ∧ data.map BitVec.toNat =
          [ (match s.station with | .listen => 1 | .active => 2 | .observer => 3 | _ => 0),
            ((match s.lif.line with | .idle => 0 | .frame => 1 | .gap => 2 | .stuck => 3)
              + bit s.lif.backoff 2
              + 16 * (match hostPower s with | .off => 0 | .sleep => 1 | .run => 2)),
            s.lif.voidCount % 256,
            s.lif.validCount.toNat % 256, s.lif.validCount.toNat / 256,
            s.stationCode.toNat + (match s.loader.status with | .ok => 0 | .fault => 16),
            (match s.loader.reason with
              | .none => 0 | .badMarker => 1 | .badVersion => 2 | .badCount => 3
              | .noProfile => 4 | .badSum => 5 | .badProfile => 6),
            ((List.finRange 7).map fun c => bit (s.conds.get c) c.val).sum
              + bit (s.lif.line == .stuck) 7,
            ((List.finRange 6).map fun g => bit (groupSummary s g) g.val).sum,
            ((List.finRange 8).map fun p => bit (s.patterns.get p).latch p.val).sum,
            s.journal.records.length % 256,
            s.journal.lost.toNat % 256, s.journal.lost.toNat / 256,
            ((List.finRange 4).map fun k => bit (s.soft.get k == .asserted) k.val).sum ]
      ∧ ∀ g : Fin 6, groupSummary s g = true ↔
          ∃ k : Fin 48, k.val / 8 = g.val ∧ (s.slots.get k).latch = true

/-- GET_SLOTS, GET_CHANNELS and GET_PATTERNS (R115, R169, R170, section 11.4): one snapshot of the range
asked for, entry by entry, and nothing but the port and the hand-over changes. -/
def Obligations.SnapshotRequests : Prop :=
  ∀ (s : State) (tag first count : Byte), s.station.onLine = true →
    let bit (b : Bool) (n : Nat) : Nat := if b then 2 ^ n else 0
    let next (bytes : Nat) (data : List Byte) : State :=
      { s with
        journal := s.journal.released, port := s.port.answered bytes tag .ok false data }
    (first.toNat < 48 → 1 ≤ count.toNat → count.toNat ≤ 16 → first.toNat + count.toNat ≤ 48 →
      ∃ data, exec (.getSlots ⟨portAddress s, [tag, first, count]⟩) s = .next (next 4 data)
        ∧ data.length = count.toNat
        ∧ ∀ k : Fin 48, first.toNat ≤ k.val → k.val < first.toNat + count.toNat →
          (data[k.val - first.toNat]?).map BitVec.toNat =
            some
              ((match (s.slots.get k).own with | .unowned => 0 | .remote => 1 | .localOwned => 2)
                + bit ((s.slots.get k).level == .asserted) 2 + bit (s.slots.get k).latch 3))
    ∧ (first.toNat < 16 → 1 ≤ count.toNat → count.toNat ≤ 16 → first.toNat + count.toNat ≤ 16 →
      ∃ data, exec (.getChannels ⟨portAddress s, [tag, first, count]⟩) s = .next (next 4 data)
        ∧ data.length = 2 * count.toNat
        ∧ ∀ c : Fin 16, first.toNat ≤ c.val → c.val < first.toNat + count.toNat →
          (data[2 * (c.val - first.toNat)]?).map BitVec.toNat =
              some (s.profile.chans.get c).slot.val
            ∧ ((s.chans.get c).pending.length ≤ 2 →
              (data[2 * (c.val - first.toNat) + 1]?).map BitVec.toNat =
                some
                  ((match (s.chans.get c).state with
                      | .unused => 0 | .claiming => 1 | .owned => 2 | .conflict => 3
                      | .withdrawn => 4)
                    + bit ((s.chans.get c).level == .asserted) 3
                    + bit ((s.chans.get c).sent == .asserted) 4
                    + 32 * (s.chans.get c).pending.length)))
    ∧ ∃ data, exec (.getPatterns ⟨portAddress s, [tag]⟩) s = .next (next 2 data)
        ∧ data.length = 8
        ∧ ∀ p : Fin 8, (s.patterns.get p).progress ≤ 5 →
          (data[p.val]?).map BitVec.toNat =
            some
              ((s.patterns.get p).progress + bit (s.patterns.get p).latch 3
                + bit ((s.patterns.get p).output == .asserted) 4)

/-- READ_JOURNAL (R144, R146, R170): an outstanding hand-over ends, the n oldest records (or all) are
marked and copied oldest first, and stay in the journal. -/
def Obligations.ReadJournal : Prop :=
  ∀ (s : State) (tag n : Byte), s.station.onLine = true → 1 ≤ n.toNat → n.toNat ≤ 4 →
    exec (.readJournal ⟨portAddress s, [tag, n]⟩) s =
      .next
        { s with
          journal :=
            { s.journal with
              handed :=
                if n.toNat ≤ s.journal.records.length then n.toNat
                else s.journal.records.length }
          port :=
            s.port.answered 3 tag .ok (decide (s.journal.records ≠ []))
              ((s.journal.records.take n.toNat).flatMap Record.bytes) }

/-- Reads of the response (R145, R163, R165, R166), whose bytes stand as R179 and section 11.4 say: a read
addressed elsewhere changes nothing and finds the port silent; of one addressed to the port, what is sent,
bit by bit on SDA; a read that stops short changes nothing else, and the first read to reach the end
removes the handed-over records, once. The field of the bytes last sent is the model's own (log 19). -/
def Obligations.ResponseRead : Prop :=
  ∀ (s : State) (n : Nat), s.station ≠ .reset →
    (∀ dst, dst ≠ portAddress s →
      exec (.responseRead ⟨dst, n⟩) s = .next s ∧ ∀ m i, sdaPin s (.readData dst m i) = .undriven)
    ∧ (∃ t, exec (.responseRead ⟨portAddress s, n⟩) s = .next t ∧ t.port.sent.length = n
      ∧ ∀ (m : Nat) (i : Fin 8), m < n →
        (sdaPin s (.readData (portAddress s) m i) = .low ↔
          (t.port.sent.getD m 0).getLsbD i.val = false))
    ∧ (s.port.buffer = .empty →
      exec (.responseRead ⟨portAddress s, n⟩) s =
        .next
          { s with
            port :=
              { s.port with
                sent := ([0x00#8, 0x05#8, 0x00#8, 0x00#8] ++ List.replicate n 0xFF#8).take n } })
    ∧ (∀ r, s.port.buffer ≠ .empty → s.port.response = some r →
      let sent := (r.bytes ++ List.replicate n 0xFF#8).take n
      r.bytes =
          [ r.tag,
            (match r.result with
              | .ok => 0x00#8 | .badRequest => 0x01#8 | .badOperand => 0x02#8 | .badLength => 0x03#8
              | .notReady => 0x04#8 | .none => 0x05#8),
            BitVec.ofNat 8
              ((if r.replacedUnread = true then 1 else 0) + if r.carriesRecords = true then 2 else 0),
            BitVec.ofNat 8 r.data.length ]
          ++ r.data
      ∧ (n < 4 + r.data.length →
        exec (.responseRead ⟨portAddress s, n⟩) s = .next { s with port := { s.port with sent := sent } })
      ∧ (4 + r.data.length ≤ n →
        exec (.responseRead ⟨portAddress s, n⟩) s =
          .next
            { s with
              port := { s.port with sent := sent, buffer := .read, handOver := false }
              journal :=
                if s.port.handOver = true then
                  { s.journal with
                    records := s.journal.records.drop s.journal.handed, handed := 0 }
                else s.journal }))

/-- ACK_SLOTS (R54, R171): over the range, a held latch stays SET and is reported, every other is CLEAR
afterwards; nothing else of a slot changes, no record, no pattern. -/
def Obligations.AckSlots : Prop :=
  ∀ (s : State) (tag first count : Byte), s.station.onLine = true →
    first.toNat < 48 → 1 ≤ count.toNat → count.toNat ≤ 48 → first.toNat + count.toNat ≤ 48 →
    let covered (k : Fin 48) : Prop := first.toNat ≤ k.val ∧ k.val < first.toNat + count.toNat
    let held (k : Fin 48) : Prop :=
      (s.profile.slots.get k).kind = .level ∧ (s.slots.get k).level = .asserted
        ∧ (s.slots.get k).latch = true
    ∃ t data, exec (.ackSlots ⟨portAddress s, [tag, first, count]⟩) s = .next t
      ∧ t =
          { s with
            journal := s.journal.released
            port := s.port.answered 4 tag .ok false data
            slots := t.slots }
      ∧ (∀ k, (t.slots.get k).own = (s.slots.get k).own
          ∧ (t.slots.get k).level = (s.slots.get k).level
          ∧ ((t.slots.get k).latch = true ↔
              (s.slots.get k).latch = true ∧ (covered k → held k)))
      ∧ (data.map BitVec.toNat).Pairwise (· < ·)
      ∧ ∀ b : Byte, b ∈ data ↔ ∃ k, b.toNat = k.val ∧ covered k ∧ held k

/-- ACK_CONDITIONS (R74, R120, R171): every named latch is cleared but a held LINE_STUCK, which is
reported; the CONDITIONS source alone follows. -/
def Obligations.AckConditions : Prop :=
  ∀ (s : State) (tag mask : Byte), s.station.onLine = true → mask.toNat < 128 →
    ∃ t, exec (.ackConditions ⟨portAddress s, [tag, mask]⟩) s = .next t
      ∧ (∀ c : Fin 7, t.conds.get c =
          (s.conds.get c
            && (!mask.getLsbD c.val || decide (c = condLineStuck ∧ s.lif.line = .stuck))))
      ∧ t.port =
          s.port.answered 3 tag .ok false
            (if mask.getLsbD 0 = true ∧ s.conds.get condLineStuck = true ∧ s.lif.line = .stuck then
              [0x00#8]
             else [])
      ∧ (∀ c, (s.profile.chans.get c).source ≠ .conditions → t.chans.get c = s.chans.get c)
      ∧ ((∃ c, t.conds.get c = true) ∨ (∀ c, s.conds.get c = false) → t.chans = s.chans)
      ∧ (∀ c, t.chans.get c =
          s.conditionsMove (if ∃ d, t.conds.get d = true then [] else [.released]) c (s.chans.get c))
      ∧ (∀ c, (s.profile.chans.get c).source = .conditions → (∃ d, s.conds.get d = true) →
          (∀ d, t.conds.get d = false) →
          (t.chans.get c).level =
            (if (s.profile.chans.get c).invert = true then .asserted else .released))
      ∧ t =
          { s with
            journal := s.journal.released, port := t.port, conds := t.conds, chans := t.chans }

/-- ACK_PATTERNS (R75, R112, R171): the named match latches are cleared and SET outputs released; no
progress, no timer, no other output moves. -/
def Obligations.AckPatterns : Prop :=
  ∀ (s : State) (tag mask : Byte), s.station.onLine = true →
    ∃ t, exec (.ackPatterns ⟨portAddress s, [tag, mask]⟩) s = .next t
      ∧ (∀ p, t.patterns.get p =
          if mask.getLsbD p.val = true then
            { s.patterns.get p with
              latch := false
              output :=
                if (s.profile.patterns.get p).action = .set then .released
                else (s.patterns.get p).output }
          else s.patterns.get p)
      ∧ (∀ c, (∀ p, (s.profile.chans.get c).source ≠ .pattern p) →
          t.chans.get c = s.chans.get c)
      ∧ (∀ c p, (s.profile.chans.get c).source = .pattern p →
          t.chans.get c =
            (s.chans.get c).following (s.profile.chans.get c).invert (s.patterns.get p).output
              (if mask.getLsbD p.val = true ∧ (s.profile.patterns.get p).action = .set then
                [.released]
               else []))
      ∧ t =
          { s with
            journal := s.journal.released, port := s.port.answered 3 tag .ok false []
            patterns := t.patterns, chans := t.chans }

/-- SET_SOFT and PULSE_SOFT (R61, R72, R73, R172): the level after, the four levels in the response, the
channels that name the source, and the pulse on an OWNED channel with an empty list. -/
def Obligations.SoftRequests : Prop :=
  ∀ (s : State) (tag : Byte) (k : Fin 4) (v : Level), s.station.onLine = true →
    let bit (b : Bool) (n : Nat) : Nat := if b then 2 ^ n else 0
    let softBits (t : State) : List Byte :=
      [BitVec.ofNat 8
        (((List.finRange 4).map fun j => bit (t.soft.get j == .asserted) j.val).sum)]
    (∃ t, exec (.setSoft ⟨portAddress s, [tag, BitVec.ofNat 8 k.val, if v = .asserted then 1#8 else 0#8]⟩) s = .next t
      ∧ t.soft = put s.soft k v
      ∧ (s.soft.get k = v → t.chans = s.chans)
      ∧ (∀ c, (s.profile.chans.get c).source ≠ .soft k → t.chans.get c = s.chans.get c)
      ∧ (∀ c, s.soft.get k ≠ v → (s.profile.chans.get c).source = .soft k →
          t.chans.get c =
            (s.chans.get c).take
              (if (s.profile.chans.get c).invert = true then
                (if v = .asserted then .released else .asserted)
               else v))
      ∧ t =
          { s with
            journal := s.journal.released
            port := s.port.answered 4 tag .ok false (softBits t)
            soft := t.soft, chans := t.chans })
    ∧ (∃ t, exec (.pulseSoft ⟨portAddress s, [tag, BitVec.ofNat 8 k.val]⟩) s = .next t
      ∧ t.soft = put s.soft k .released
      ∧ (∀ c, (s.profile.chans.get c).source ≠ .soft k → t.chans.get c = s.chans.get c)
      ∧ (∀ c, (s.profile.chans.get c).source = .soft k →
          t.chans.get c =
            (s.chans.get c).following (s.profile.chans.get c).invert (s.soft.get k)
              [.asserted, .released])
      ∧ (∀ c, (s.profile.chans.get c).source = .soft k → s.soft.get k = .released →
          (s.profile.chans.get c).invert = false → (s.chans.get c).state = .owned →
          (s.chans.get c).level = .released → (s.chans.get c).sent = .released →
          (s.chans.get c).pending = [] → (t.chans.get c).pending = [.asserted, .released])
      ∧ t =
          { s with
            journal := s.journal.released
            port := s.port.answered 3 tag .ok false (softBits t)
            soft := t.soft, chans := t.chans })

/-! ### The journal -/

/-- A generated record (R139 to R141): it spends one sequence number; it is stored at the tail with the
lost count while fewer than 32 are held, and otherwise counted lost, with JOURNAL_LOST set. -/
def Obligations.RecordsGenerated : Prop :=
  ∀ (s : State) (body : RecordBody),
    let t := generate body s
    t.journal.seq = s.journal.seq + 1
    ∧ (s.journal.records.length < 32 →
        t.journal.records =
            s.journal.records ++
              [{ seq := s.journal.seq, body := body
                 lost := if s.journal.lost = 0 then none else some s.journal.lost }]
          ∧ t.journal.lost = 0 ∧ t = { s with journal := t.journal })
    ∧ (32 ≤ s.journal.records.length →
        t.journal.records = s.journal.records ∧ t.journal.lost = s.journal.lost + 1
          ∧ t.conds = put s.conds condJournalLost true
          ∧ (s.conds.get condJournalLost = true → t.chans = s.chans)
          ∧ t = { s with journal := t.journal, conds := t.conds, chans := t.chans })
    ∧ t.journal.handed = s.journal.handed

/-- The nine bytes of a record, each as section 11.5 lays it out, say the record (R180): no two records have
the same bytes. -/
def Obligations.RecordBytesInjective : Prop :=
  (∀ r : Record,
    let bit (b : Bool) (n : Nat) : Nat := if b then 2 ^ n else 0
    let stamp : Option (BitVec 16) :=
      match r.body with
      | .slot _ _ _ stamp => some stamp
      | .matched _ stamp => stamp
      | .start _ _ | .line _ | .claim _ _ => none
    r.bytes.map BitVec.toNat =
      [ r.seq.toNat % 256, r.seq.toNat / 256,
        (match r.body with
          | .start _ _ => 0 | .slot _ _ _ _ => 1 | .matched _ _ => 2 | .line _ => 3 | .claim _ _ => 4)
          + bit stamp.isSome 4 + bit r.lost.isSome 5,
        (match r.body with
          | .start _ _ | .line _ => 255
          | .slot k _ _ _ | .claim k _ => k.val
          | .matched p _ => p.val),
        (match r.body with
          | .start cause status =>
            (match cause with | .power => 0 | .pin => 1 | .request => 2)
              + (match status with | .ok => 0 | .fault => 16)
          | .slot _ level cause _ =>
            (match cause with | .frame => 0 | .ownerLost => 1) + bit (level == .asserted) 3
          | .matched _ _ => 0
          | .line cause => (match cause with | .stuck => 0 | .clear => 1 | .backoff => 2)
          | .claim _ cause => (match cause with | .conflict => 0 | .contest => 1)),
        (stamp.getD 0).toNat % 256, (stamp.getD 0).toNat / 256,
        (r.lost.getD 0).toNat % 256, (r.lost.getD 0).toNat / 256 ])
  ∧ ∀ r r' : Record, r.bytes = r'.bytes → r = r'

/-! ### Laws that every step keeps -/

/-- The state after reset keeps every law. -/
def Obligations.ResetLawful : Prop := State.reset.Lawful

/-- Every step keeps the law of the pending lists (R63). -/
def Obligations.PendingLawKept : Prop :=
  ∀ s t : State, s.PendingLaw → step s = .next t → t.PendingLaw

/-- Every step keeps each channel's level equal to its source level through its invert flag (R60). -/
def Obligations.SourcesFollowed : Prop :=
  ∀ s t : State, s.ChannelsFollowSources → step s = .next t → t.ChannelsFollowSources

/-- Every step keeps the law of the journal (R140, R144, R146). -/
def Obligations.JournalLawKept : Prop :=
  ∀ s t : State, s.JournalLaw → step s = .next t → t.JournalLaw

/-- Every step keeps the laws of the patterns (R94, R95, R110, R111). -/
def Obligations.PatternLawsKept : Prop :=
  ∀ s t : State, s.PatternLaw ∧ s.MatchLaw → step s = .next t → t.PatternLaw ∧ t.MatchLaw

/-- Every step keeps the law of the slot table: UNOWNED is RELEASED (R43), LEVEL latches are held
(R53). -/
def Obligations.SlotLawKept : Prop :=
  ∀ s t : State, s.SlotLaw → step s = .next t → t.SlotLaw

/-- Every step keeps the law of ownership: LOCAL exactly where one OWNED channel is bound (R28). -/
def Obligations.OwnershipLawKept : Prop :=
  ∀ s t : State, s.OwnershipLaw → step s = .next t → t.OwnershipLaw

/-- Every step keeps the line interface in its ranges and its timers where the manual lets them run
(section 1.2, R17 to R21). -/
def Obligations.LineLawKept : Prop :=
  ∀ s t : State, s.LineLaw → step s = .next t → t.LineLaw
end

