-- ==== Sys2Proof/Laws/State.lean ====
section
/-! SUPPORT. One lemma per field per update of `State`, each true by definition. -/

namespace Sys2Proof.Machine

open Sys2Proof

@[simp] theorem State.setStation_station (s : State) (x : Station) : (s.setStation x).station = x := rfl
@[simp] theorem State.setStation_cause (s : State) (x : Station) : (s.setStation x).cause = s.cause := rfl
@[simp] theorem State.setStation_stationCode (s : State) (x : Station) : (s.setStation x).stationCode = s.stationCode := rfl
@[simp] theorem State.setStation_addrCode (s : State) (x : Station) : (s.setStation x).addrCode = s.addrCode := rfl
@[simp] theorem State.setStation_profile (s : State) (x : Station) : (s.setStation x).profile = s.profile := rfl
@[simp] theorem State.setStation_loader (s : State) (x : Station) : (s.setStation x).loader = s.loader := rfl
@[simp] theorem State.setStation_lif (s : State) (x : Station) : (s.setStation x).lif = s.lif := rfl
@[simp] theorem State.setStation_owner (s : State) (x : Station) : (s.setStation x).owner = s.owner := rfl
@[simp] theorem State.setStation_slots (s : State) (x : Station) : (s.setStation x).slots = s.slots := rfl
@[simp] theorem State.setStation_chans (s : State) (x : Station) : (s.setStation x).chans = s.chans := rfl
@[simp] theorem State.setStation_soft (s : State) (x : Station) : (s.setStation x).soft = s.soft := rfl
@[simp] theorem State.setStation_inputs (s : State) (x : Station) : (s.setStation x).inputs = s.inputs := rfl
@[simp] theorem State.setStation_host (s : State) (x : Station) : (s.setStation x).host = s.host := rfl
@[simp] theorem State.setStation_patterns (s : State) (x : Station) : (s.setStation x).patterns = s.patterns := rfl
@[simp] theorem State.setStation_conds (s : State) (x : Station) : (s.setStation x).conds = s.conds := rfl
@[simp] theorem State.setStation_blink (s : State) (x : Station) : (s.setStation x).blink = s.blink := rfl
@[simp] theorem State.setStation_journal (s : State) (x : Station) : (s.setStation x).journal = s.journal := rfl
@[simp] theorem State.setStation_port (s : State) (x : Station) : (s.setStation x).port = s.port := rfl
@[simp] theorem State.setStation_pins (s : State) (x : Station) : (s.setStation x).pins = s.pins := rfl
@[simp] theorem State.setStation_freeIndex (s : State) (x : Station) : (s.setStation x).freeIndex = s.freeIndex := rfl
@[simp] theorem State.setStation_pending (s : State) (x : Station) : (s.setStation x).pending = s.pending := rfl
@[simp] theorem State.setCause_station (s : State) (x : ResetCause) : (s.setCause x).station = s.station := rfl
@[simp] theorem State.setCause_cause (s : State) (x : ResetCause) : (s.setCause x).cause = x := rfl
@[simp] theorem State.setCause_stationCode (s : State) (x : ResetCause) : (s.setCause x).stationCode = s.stationCode := rfl
@[simp] theorem State.setCause_addrCode (s : State) (x : ResetCause) : (s.setCause x).addrCode = s.addrCode := rfl
@[simp] theorem State.setCause_profile (s : State) (x : ResetCause) : (s.setCause x).profile = s.profile := rfl
@[simp] theorem State.setCause_loader (s : State) (x : ResetCause) : (s.setCause x).loader = s.loader := rfl
@[simp] theorem State.setCause_lif (s : State) (x : ResetCause) : (s.setCause x).lif = s.lif := rfl
@[simp] theorem State.setCause_owner (s : State) (x : ResetCause) : (s.setCause x).owner = s.owner := rfl
@[simp] theorem State.setCause_slots (s : State) (x : ResetCause) : (s.setCause x).slots = s.slots := rfl
@[simp] theorem State.setCause_chans (s : State) (x : ResetCause) : (s.setCause x).chans = s.chans := rfl
@[simp] theorem State.setCause_soft (s : State) (x : ResetCause) : (s.setCause x).soft = s.soft := rfl
@[simp] theorem State.setCause_inputs (s : State) (x : ResetCause) : (s.setCause x).inputs = s.inputs := rfl
@[simp] theorem State.setCause_host (s : State) (x : ResetCause) : (s.setCause x).host = s.host := rfl
@[simp] theorem State.setCause_patterns (s : State) (x : ResetCause) : (s.setCause x).patterns = s.patterns := rfl
@[simp] theorem State.setCause_conds (s : State) (x : ResetCause) : (s.setCause x).conds = s.conds := rfl
@[simp] theorem State.setCause_blink (s : State) (x : ResetCause) : (s.setCause x).blink = s.blink := rfl
@[simp] theorem State.setCause_journal (s : State) (x : ResetCause) : (s.setCause x).journal = s.journal := rfl
@[simp] theorem State.setCause_port (s : State) (x : ResetCause) : (s.setCause x).port = s.port := rfl
@[simp] theorem State.setCause_pins (s : State) (x : ResetCause) : (s.setCause x).pins = s.pins := rfl
@[simp] theorem State.setCause_freeIndex (s : State) (x : ResetCause) : (s.setCause x).freeIndex = s.freeIndex := rfl
@[simp] theorem State.setCause_pending (s : State) (x : ResetCause) : (s.setCause x).pending = s.pending := rfl
@[simp] theorem State.setStationCode_station (s : State) (x : BitVec 4) : (s.setStationCode x).station = s.station := rfl
@[simp] theorem State.setStationCode_cause (s : State) (x : BitVec 4) : (s.setStationCode x).cause = s.cause := rfl
@[simp] theorem State.setStationCode_stationCode (s : State) (x : BitVec 4) : (s.setStationCode x).stationCode = x := rfl
@[simp] theorem State.setStationCode_addrCode (s : State) (x : BitVec 4) : (s.setStationCode x).addrCode = s.addrCode := rfl
@[simp] theorem State.setStationCode_profile (s : State) (x : BitVec 4) : (s.setStationCode x).profile = s.profile := rfl
@[simp] theorem State.setStationCode_loader (s : State) (x : BitVec 4) : (s.setStationCode x).loader = s.loader := rfl
@[simp] theorem State.setStationCode_lif (s : State) (x : BitVec 4) : (s.setStationCode x).lif = s.lif := rfl
@[simp] theorem State.setStationCode_owner (s : State) (x : BitVec 4) : (s.setStationCode x).owner = s.owner := rfl
@[simp] theorem State.setStationCode_slots (s : State) (x : BitVec 4) : (s.setStationCode x).slots = s.slots := rfl
@[simp] theorem State.setStationCode_chans (s : State) (x : BitVec 4) : (s.setStationCode x).chans = s.chans := rfl
@[simp] theorem State.setStationCode_soft (s : State) (x : BitVec 4) : (s.setStationCode x).soft = s.soft := rfl
@[simp] theorem State.setStationCode_inputs (s : State) (x : BitVec 4) : (s.setStationCode x).inputs = s.inputs := rfl
@[simp] theorem State.setStationCode_host (s : State) (x : BitVec 4) : (s.setStationCode x).host = s.host := rfl
@[simp] theorem State.setStationCode_patterns (s : State) (x : BitVec 4) : (s.setStationCode x).patterns = s.patterns := rfl
@[simp] theorem State.setStationCode_conds (s : State) (x : BitVec 4) : (s.setStationCode x).conds = s.conds := rfl
@[simp] theorem State.setStationCode_blink (s : State) (x : BitVec 4) : (s.setStationCode x).blink = s.blink := rfl
@[simp] theorem State.setStationCode_journal (s : State) (x : BitVec 4) : (s.setStationCode x).journal = s.journal := rfl
@[simp] theorem State.setStationCode_port (s : State) (x : BitVec 4) : (s.setStationCode x).port = s.port := rfl
@[simp] theorem State.setStationCode_pins (s : State) (x : BitVec 4) : (s.setStationCode x).pins = s.pins := rfl
@[simp] theorem State.setStationCode_freeIndex (s : State) (x : BitVec 4) : (s.setStationCode x).freeIndex = s.freeIndex := rfl
@[simp] theorem State.setStationCode_pending (s : State) (x : BitVec 4) : (s.setStationCode x).pending = s.pending := rfl
@[simp] theorem State.setAddrCode_station (s : State) (x : BitVec 2) : (s.setAddrCode x).station = s.station := rfl
@[simp] theorem State.setAddrCode_cause (s : State) (x : BitVec 2) : (s.setAddrCode x).cause = s.cause := rfl
@[simp] theorem State.setAddrCode_stationCode (s : State) (x : BitVec 2) : (s.setAddrCode x).stationCode = s.stationCode := rfl
@[simp] theorem State.setAddrCode_addrCode (s : State) (x : BitVec 2) : (s.setAddrCode x).addrCode = x := rfl
@[simp] theorem State.setAddrCode_profile (s : State) (x : BitVec 2) : (s.setAddrCode x).profile = s.profile := rfl
@[simp] theorem State.setAddrCode_loader (s : State) (x : BitVec 2) : (s.setAddrCode x).loader = s.loader := rfl
@[simp] theorem State.setAddrCode_lif (s : State) (x : BitVec 2) : (s.setAddrCode x).lif = s.lif := rfl
@[simp] theorem State.setAddrCode_owner (s : State) (x : BitVec 2) : (s.setAddrCode x).owner = s.owner := rfl
@[simp] theorem State.setAddrCode_slots (s : State) (x : BitVec 2) : (s.setAddrCode x).slots = s.slots := rfl
@[simp] theorem State.setAddrCode_chans (s : State) (x : BitVec 2) : (s.setAddrCode x).chans = s.chans := rfl
@[simp] theorem State.setAddrCode_soft (s : State) (x : BitVec 2) : (s.setAddrCode x).soft = s.soft := rfl
@[simp] theorem State.setAddrCode_inputs (s : State) (x : BitVec 2) : (s.setAddrCode x).inputs = s.inputs := rfl
@[simp] theorem State.setAddrCode_host (s : State) (x : BitVec 2) : (s.setAddrCode x).host = s.host := rfl
@[simp] theorem State.setAddrCode_patterns (s : State) (x : BitVec 2) : (s.setAddrCode x).patterns = s.patterns := rfl
@[simp] theorem State.setAddrCode_conds (s : State) (x : BitVec 2) : (s.setAddrCode x).conds = s.conds := rfl
@[simp] theorem State.setAddrCode_blink (s : State) (x : BitVec 2) : (s.setAddrCode x).blink = s.blink := rfl
@[simp] theorem State.setAddrCode_journal (s : State) (x : BitVec 2) : (s.setAddrCode x).journal = s.journal := rfl
@[simp] theorem State.setAddrCode_port (s : State) (x : BitVec 2) : (s.setAddrCode x).port = s.port := rfl
@[simp] theorem State.setAddrCode_pins (s : State) (x : BitVec 2) : (s.setAddrCode x).pins = s.pins := rfl
@[simp] theorem State.setAddrCode_freeIndex (s : State) (x : BitVec 2) : (s.setAddrCode x).freeIndex = s.freeIndex := rfl
@[simp] theorem State.setAddrCode_pending (s : State) (x : BitVec 2) : (s.setAddrCode x).pending = s.pending := rfl
@[simp] theorem State.setProfile_station (s : State) (x : Profile) : (s.setProfile x).station = s.station := rfl
@[simp] theorem State.setProfile_cause (s : State) (x : Profile) : (s.setProfile x).cause = s.cause := rfl
@[simp] theorem State.setProfile_stationCode (s : State) (x : Profile) : (s.setProfile x).stationCode = s.stationCode := rfl
@[simp] theorem State.setProfile_addrCode (s : State) (x : Profile) : (s.setProfile x).addrCode = s.addrCode := rfl
@[simp] theorem State.setProfile_profile (s : State) (x : Profile) : (s.setProfile x).profile = x := rfl
@[simp] theorem State.setProfile_loader (s : State) (x : Profile) : (s.setProfile x).loader = s.loader := rfl
@[simp] theorem State.setProfile_lif (s : State) (x : Profile) : (s.setProfile x).lif = s.lif := rfl
@[simp] theorem State.setProfile_owner (s : State) (x : Profile) : (s.setProfile x).owner = s.owner := rfl
@[simp] theorem State.setProfile_slots (s : State) (x : Profile) : (s.setProfile x).slots = s.slots := rfl
@[simp] theorem State.setProfile_chans (s : State) (x : Profile) : (s.setProfile x).chans = s.chans := rfl
@[simp] theorem State.setProfile_soft (s : State) (x : Profile) : (s.setProfile x).soft = s.soft := rfl
@[simp] theorem State.setProfile_inputs (s : State) (x : Profile) : (s.setProfile x).inputs = s.inputs := rfl
@[simp] theorem State.setProfile_host (s : State) (x : Profile) : (s.setProfile x).host = s.host := rfl
@[simp] theorem State.setProfile_patterns (s : State) (x : Profile) : (s.setProfile x).patterns = s.patterns := rfl
@[simp] theorem State.setProfile_conds (s : State) (x : Profile) : (s.setProfile x).conds = s.conds := rfl
@[simp] theorem State.setProfile_blink (s : State) (x : Profile) : (s.setProfile x).blink = s.blink := rfl
@[simp] theorem State.setProfile_journal (s : State) (x : Profile) : (s.setProfile x).journal = s.journal := rfl
@[simp] theorem State.setProfile_port (s : State) (x : Profile) : (s.setProfile x).port = s.port := rfl
@[simp] theorem State.setProfile_pins (s : State) (x : Profile) : (s.setProfile x).pins = s.pins := rfl
@[simp] theorem State.setProfile_freeIndex (s : State) (x : Profile) : (s.setProfile x).freeIndex = s.freeIndex := rfl
@[simp] theorem State.setProfile_pending (s : State) (x : Profile) : (s.setProfile x).pending = s.pending := rfl
@[simp] theorem State.setLoader_station (s : State) (x : Loader) : (s.setLoader x).station = s.station := rfl
@[simp] theorem State.setLoader_cause (s : State) (x : Loader) : (s.setLoader x).cause = s.cause := rfl
@[simp] theorem State.setLoader_stationCode (s : State) (x : Loader) : (s.setLoader x).stationCode = s.stationCode := rfl
@[simp] theorem State.setLoader_addrCode (s : State) (x : Loader) : (s.setLoader x).addrCode = s.addrCode := rfl
@[simp] theorem State.setLoader_profile (s : State) (x : Loader) : (s.setLoader x).profile = s.profile := rfl
@[simp] theorem State.setLoader_loader (s : State) (x : Loader) : (s.setLoader x).loader = x := rfl
@[simp] theorem State.setLoader_lif (s : State) (x : Loader) : (s.setLoader x).lif = s.lif := rfl
@[simp] theorem State.setLoader_owner (s : State) (x : Loader) : (s.setLoader x).owner = s.owner := rfl
@[simp] theorem State.setLoader_slots (s : State) (x : Loader) : (s.setLoader x).slots = s.slots := rfl
@[simp] theorem State.setLoader_chans (s : State) (x : Loader) : (s.setLoader x).chans = s.chans := rfl
@[simp] theorem State.setLoader_soft (s : State) (x : Loader) : (s.setLoader x).soft = s.soft := rfl
@[simp] theorem State.setLoader_inputs (s : State) (x : Loader) : (s.setLoader x).inputs = s.inputs := rfl
@[simp] theorem State.setLoader_host (s : State) (x : Loader) : (s.setLoader x).host = s.host := rfl
@[simp] theorem State.setLoader_patterns (s : State) (x : Loader) : (s.setLoader x).patterns = s.patterns := rfl
@[simp] theorem State.setLoader_conds (s : State) (x : Loader) : (s.setLoader x).conds = s.conds := rfl
@[simp] theorem State.setLoader_blink (s : State) (x : Loader) : (s.setLoader x).blink = s.blink := rfl
@[simp] theorem State.setLoader_journal (s : State) (x : Loader) : (s.setLoader x).journal = s.journal := rfl
@[simp] theorem State.setLoader_port (s : State) (x : Loader) : (s.setLoader x).port = s.port := rfl
@[simp] theorem State.setLoader_pins (s : State) (x : Loader) : (s.setLoader x).pins = s.pins := rfl
@[simp] theorem State.setLoader_freeIndex (s : State) (x : Loader) : (s.setLoader x).freeIndex = s.freeIndex := rfl
@[simp] theorem State.setLoader_pending (s : State) (x : Loader) : (s.setLoader x).pending = s.pending := rfl
@[simp] theorem State.setLif_station (s : State) (x : Lif) : (s.setLif x).station = s.station := rfl
@[simp] theorem State.setLif_cause (s : State) (x : Lif) : (s.setLif x).cause = s.cause := rfl
@[simp] theorem State.setLif_stationCode (s : State) (x : Lif) : (s.setLif x).stationCode = s.stationCode := rfl
@[simp] theorem State.setLif_addrCode (s : State) (x : Lif) : (s.setLif x).addrCode = s.addrCode := rfl
@[simp] theorem State.setLif_profile (s : State) (x : Lif) : (s.setLif x).profile = s.profile := rfl
@[simp] theorem State.setLif_loader (s : State) (x : Lif) : (s.setLif x).loader = s.loader := rfl
@[simp] theorem State.setLif_lif (s : State) (x : Lif) : (s.setLif x).lif = x := rfl
@[simp] theorem State.setLif_owner (s : State) (x : Lif) : (s.setLif x).owner = s.owner := rfl
@[simp] theorem State.setLif_slots (s : State) (x : Lif) : (s.setLif x).slots = s.slots := rfl
@[simp] theorem State.setLif_chans (s : State) (x : Lif) : (s.setLif x).chans = s.chans := rfl
@[simp] theorem State.setLif_soft (s : State) (x : Lif) : (s.setLif x).soft = s.soft := rfl
@[simp] theorem State.setLif_inputs (s : State) (x : Lif) : (s.setLif x).inputs = s.inputs := rfl
@[simp] theorem State.setLif_host (s : State) (x : Lif) : (s.setLif x).host = s.host := rfl
@[simp] theorem State.setLif_patterns (s : State) (x : Lif) : (s.setLif x).patterns = s.patterns := rfl
@[simp] theorem State.setLif_conds (s : State) (x : Lif) : (s.setLif x).conds = s.conds := rfl
@[simp] theorem State.setLif_blink (s : State) (x : Lif) : (s.setLif x).blink = s.blink := rfl
@[simp] theorem State.setLif_journal (s : State) (x : Lif) : (s.setLif x).journal = s.journal := rfl
@[simp] theorem State.setLif_port (s : State) (x : Lif) : (s.setLif x).port = s.port := rfl
@[simp] theorem State.setLif_pins (s : State) (x : Lif) : (s.setLif x).pins = s.pins := rfl
@[simp] theorem State.setLif_freeIndex (s : State) (x : Lif) : (s.setLif x).freeIndex = s.freeIndex := rfl
@[simp] theorem State.setLif_pending (s : State) (x : Lif) : (s.setLif x).pending = s.pending := rfl
@[simp] theorem State.setOwner_station (s : State) (x : Owner) : (s.setOwner x).station = s.station := rfl
@[simp] theorem State.setOwner_cause (s : State) (x : Owner) : (s.setOwner x).cause = s.cause := rfl
@[simp] theorem State.setOwner_stationCode (s : State) (x : Owner) : (s.setOwner x).stationCode = s.stationCode := rfl
@[simp] theorem State.setOwner_addrCode (s : State) (x : Owner) : (s.setOwner x).addrCode = s.addrCode := rfl
@[simp] theorem State.setOwner_profile (s : State) (x : Owner) : (s.setOwner x).profile = s.profile := rfl
@[simp] theorem State.setOwner_loader (s : State) (x : Owner) : (s.setOwner x).loader = s.loader := rfl
@[simp] theorem State.setOwner_lif (s : State) (x : Owner) : (s.setOwner x).lif = s.lif := rfl
@[simp] theorem State.setOwner_owner (s : State) (x : Owner) : (s.setOwner x).owner = x := rfl
@[simp] theorem State.setOwner_slots (s : State) (x : Owner) : (s.setOwner x).slots = s.slots := rfl
@[simp] theorem State.setOwner_chans (s : State) (x : Owner) : (s.setOwner x).chans = s.chans := rfl
@[simp] theorem State.setOwner_soft (s : State) (x : Owner) : (s.setOwner x).soft = s.soft := rfl
@[simp] theorem State.setOwner_inputs (s : State) (x : Owner) : (s.setOwner x).inputs = s.inputs := rfl
@[simp] theorem State.setOwner_host (s : State) (x : Owner) : (s.setOwner x).host = s.host := rfl
@[simp] theorem State.setOwner_patterns (s : State) (x : Owner) : (s.setOwner x).patterns = s.patterns := rfl
@[simp] theorem State.setOwner_conds (s : State) (x : Owner) : (s.setOwner x).conds = s.conds := rfl
@[simp] theorem State.setOwner_blink (s : State) (x : Owner) : (s.setOwner x).blink = s.blink := rfl
@[simp] theorem State.setOwner_journal (s : State) (x : Owner) : (s.setOwner x).journal = s.journal := rfl
@[simp] theorem State.setOwner_port (s : State) (x : Owner) : (s.setOwner x).port = s.port := rfl
@[simp] theorem State.setOwner_pins (s : State) (x : Owner) : (s.setOwner x).pins = s.pins := rfl
@[simp] theorem State.setOwner_freeIndex (s : State) (x : Owner) : (s.setOwner x).freeIndex = s.freeIndex := rfl
@[simp] theorem State.setOwner_pending (s : State) (x : Owner) : (s.setOwner x).pending = s.pending := rfl
@[simp] theorem State.setSlots_station (s : State) (x : Vector SlotEntry 48) : (s.setSlots x).station = s.station := rfl
@[simp] theorem State.setSlots_cause (s : State) (x : Vector SlotEntry 48) : (s.setSlots x).cause = s.cause := rfl
@[simp] theorem State.setSlots_stationCode (s : State) (x : Vector SlotEntry 48) : (s.setSlots x).stationCode = s.stationCode := rfl
@[simp] theorem State.setSlots_addrCode (s : State) (x : Vector SlotEntry 48) : (s.setSlots x).addrCode = s.addrCode := rfl
@[simp] theorem State.setSlots_profile (s : State) (x : Vector SlotEntry 48) : (s.setSlots x).profile = s.profile := rfl
@[simp] theorem State.setSlots_loader (s : State) (x : Vector SlotEntry 48) : (s.setSlots x).loader = s.loader := rfl
@[simp] theorem State.setSlots_lif (s : State) (x : Vector SlotEntry 48) : (s.setSlots x).lif = s.lif := rfl
@[simp] theorem State.setSlots_owner (s : State) (x : Vector SlotEntry 48) : (s.setSlots x).owner = s.owner := rfl
@[simp] theorem State.setSlots_slots (s : State) (x : Vector SlotEntry 48) : (s.setSlots x).slots = x := rfl
@[simp] theorem State.setSlots_chans (s : State) (x : Vector SlotEntry 48) : (s.setSlots x).chans = s.chans := rfl
@[simp] theorem State.setSlots_soft (s : State) (x : Vector SlotEntry 48) : (s.setSlots x).soft = s.soft := rfl
@[simp] theorem State.setSlots_inputs (s : State) (x : Vector SlotEntry 48) : (s.setSlots x).inputs = s.inputs := rfl
@[simp] theorem State.setSlots_host (s : State) (x : Vector SlotEntry 48) : (s.setSlots x).host = s.host := rfl
@[simp] theorem State.setSlots_patterns (s : State) (x : Vector SlotEntry 48) : (s.setSlots x).patterns = s.patterns := rfl
@[simp] theorem State.setSlots_conds (s : State) (x : Vector SlotEntry 48) : (s.setSlots x).conds = s.conds := rfl
@[simp] theorem State.setSlots_blink (s : State) (x : Vector SlotEntry 48) : (s.setSlots x).blink = s.blink := rfl
@[simp] theorem State.setSlots_journal (s : State) (x : Vector SlotEntry 48) : (s.setSlots x).journal = s.journal := rfl
@[simp] theorem State.setSlots_port (s : State) (x : Vector SlotEntry 48) : (s.setSlots x).port = s.port := rfl
@[simp] theorem State.setSlots_pins (s : State) (x : Vector SlotEntry 48) : (s.setSlots x).pins = s.pins := rfl
@[simp] theorem State.setSlots_freeIndex (s : State) (x : Vector SlotEntry 48) : (s.setSlots x).freeIndex = s.freeIndex := rfl
@[simp] theorem State.setSlots_pending (s : State) (x : Vector SlotEntry 48) : (s.setSlots x).pending = s.pending := rfl
@[simp] theorem State.setChans_station (s : State) (x : Vector Channel 16) : (s.setChans x).station = s.station := rfl
@[simp] theorem State.setChans_cause (s : State) (x : Vector Channel 16) : (s.setChans x).cause = s.cause := rfl
@[simp] theorem State.setChans_stationCode (s : State) (x : Vector Channel 16) : (s.setChans x).stationCode = s.stationCode := rfl
@[simp] theorem State.setChans_addrCode (s : State) (x : Vector Channel 16) : (s.setChans x).addrCode = s.addrCode := rfl
@[simp] theorem State.setChans_profile (s : State) (x : Vector Channel 16) : (s.setChans x).profile = s.profile := rfl
@[simp] theorem State.setChans_loader (s : State) (x : Vector Channel 16) : (s.setChans x).loader = s.loader := rfl
@[simp] theorem State.setChans_lif (s : State) (x : Vector Channel 16) : (s.setChans x).lif = s.lif := rfl
@[simp] theorem State.setChans_owner (s : State) (x : Vector Channel 16) : (s.setChans x).owner = s.owner := rfl
@[simp] theorem State.setChans_slots (s : State) (x : Vector Channel 16) : (s.setChans x).slots = s.slots := rfl
@[simp] theorem State.setChans_chans (s : State) (x : Vector Channel 16) : (s.setChans x).chans = x := rfl
@[simp] theorem State.setChans_soft (s : State) (x : Vector Channel 16) : (s.setChans x).soft = s.soft := rfl
@[simp] theorem State.setChans_inputs (s : State) (x : Vector Channel 16) : (s.setChans x).inputs = s.inputs := rfl
@[simp] theorem State.setChans_host (s : State) (x : Vector Channel 16) : (s.setChans x).host = s.host := rfl
@[simp] theorem State.setChans_patterns (s : State) (x : Vector Channel 16) : (s.setChans x).patterns = s.patterns := rfl
@[simp] theorem State.setChans_conds (s : State) (x : Vector Channel 16) : (s.setChans x).conds = s.conds := rfl
@[simp] theorem State.setChans_blink (s : State) (x : Vector Channel 16) : (s.setChans x).blink = s.blink := rfl
@[simp] theorem State.setChans_journal (s : State) (x : Vector Channel 16) : (s.setChans x).journal = s.journal := rfl
@[simp] theorem State.setChans_port (s : State) (x : Vector Channel 16) : (s.setChans x).port = s.port := rfl
@[simp] theorem State.setChans_pins (s : State) (x : Vector Channel 16) : (s.setChans x).pins = s.pins := rfl
@[simp] theorem State.setChans_freeIndex (s : State) (x : Vector Channel 16) : (s.setChans x).freeIndex = s.freeIndex := rfl
@[simp] theorem State.setChans_pending (s : State) (x : Vector Channel 16) : (s.setChans x).pending = s.pending := rfl
@[simp] theorem State.setSoft_station (s : State) (x : Vector Level 4) : (s.setSoft x).station = s.station := rfl
@[simp] theorem State.setSoft_cause (s : State) (x : Vector Level 4) : (s.setSoft x).cause = s.cause := rfl
@[simp] theorem State.setSoft_stationCode (s : State) (x : Vector Level 4) : (s.setSoft x).stationCode = s.stationCode := rfl
@[simp] theorem State.setSoft_addrCode (s : State) (x : Vector Level 4) : (s.setSoft x).addrCode = s.addrCode := rfl
@[simp] theorem State.setSoft_profile (s : State) (x : Vector Level 4) : (s.setSoft x).profile = s.profile := rfl
@[simp] theorem State.setSoft_loader (s : State) (x : Vector Level 4) : (s.setSoft x).loader = s.loader := rfl
@[simp] theorem State.setSoft_lif (s : State) (x : Vector Level 4) : (s.setSoft x).lif = s.lif := rfl
@[simp] theorem State.setSoft_owner (s : State) (x : Vector Level 4) : (s.setSoft x).owner = s.owner := rfl
@[simp] theorem State.setSoft_slots (s : State) (x : Vector Level 4) : (s.setSoft x).slots = s.slots := rfl
@[simp] theorem State.setSoft_chans (s : State) (x : Vector Level 4) : (s.setSoft x).chans = s.chans := rfl
@[simp] theorem State.setSoft_soft (s : State) (x : Vector Level 4) : (s.setSoft x).soft = x := rfl
@[simp] theorem State.setSoft_inputs (s : State) (x : Vector Level 4) : (s.setSoft x).inputs = s.inputs := rfl
@[simp] theorem State.setSoft_host (s : State) (x : Vector Level 4) : (s.setSoft x).host = s.host := rfl
@[simp] theorem State.setSoft_patterns (s : State) (x : Vector Level 4) : (s.setSoft x).patterns = s.patterns := rfl
@[simp] theorem State.setSoft_conds (s : State) (x : Vector Level 4) : (s.setSoft x).conds = s.conds := rfl
@[simp] theorem State.setSoft_blink (s : State) (x : Vector Level 4) : (s.setSoft x).blink = s.blink := rfl
@[simp] theorem State.setSoft_journal (s : State) (x : Vector Level 4) : (s.setSoft x).journal = s.journal := rfl
@[simp] theorem State.setSoft_port (s : State) (x : Vector Level 4) : (s.setSoft x).port = s.port := rfl
@[simp] theorem State.setSoft_pins (s : State) (x : Vector Level 4) : (s.setSoft x).pins = s.pins := rfl
@[simp] theorem State.setSoft_freeIndex (s : State) (x : Vector Level 4) : (s.setSoft x).freeIndex = s.freeIndex := rfl
@[simp] theorem State.setSoft_pending (s : State) (x : Vector Level 4) : (s.setSoft x).pending = s.pending := rfl
@[simp] theorem State.setInputs_station (s : State) (x : Vector InputRec 12) : (s.setInputs x).station = s.station := rfl
@[simp] theorem State.setInputs_cause (s : State) (x : Vector InputRec 12) : (s.setInputs x).cause = s.cause := rfl
@[simp] theorem State.setInputs_stationCode (s : State) (x : Vector InputRec 12) : (s.setInputs x).stationCode = s.stationCode := rfl
@[simp] theorem State.setInputs_addrCode (s : State) (x : Vector InputRec 12) : (s.setInputs x).addrCode = s.addrCode := rfl
@[simp] theorem State.setInputs_profile (s : State) (x : Vector InputRec 12) : (s.setInputs x).profile = s.profile := rfl
@[simp] theorem State.setInputs_loader (s : State) (x : Vector InputRec 12) : (s.setInputs x).loader = s.loader := rfl
@[simp] theorem State.setInputs_lif (s : State) (x : Vector InputRec 12) : (s.setInputs x).lif = s.lif := rfl
@[simp] theorem State.setInputs_owner (s : State) (x : Vector InputRec 12) : (s.setInputs x).owner = s.owner := rfl
@[simp] theorem State.setInputs_slots (s : State) (x : Vector InputRec 12) : (s.setInputs x).slots = s.slots := rfl
@[simp] theorem State.setInputs_chans (s : State) (x : Vector InputRec 12) : (s.setInputs x).chans = s.chans := rfl
@[simp] theorem State.setInputs_soft (s : State) (x : Vector InputRec 12) : (s.setInputs x).soft = s.soft := rfl
@[simp] theorem State.setInputs_inputs (s : State) (x : Vector InputRec 12) : (s.setInputs x).inputs = x := rfl
@[simp] theorem State.setInputs_host (s : State) (x : Vector InputRec 12) : (s.setInputs x).host = s.host := rfl
@[simp] theorem State.setInputs_patterns (s : State) (x : Vector InputRec 12) : (s.setInputs x).patterns = s.patterns := rfl
@[simp] theorem State.setInputs_conds (s : State) (x : Vector InputRec 12) : (s.setInputs x).conds = s.conds := rfl
@[simp] theorem State.setInputs_blink (s : State) (x : Vector InputRec 12) : (s.setInputs x).blink = s.blink := rfl
@[simp] theorem State.setInputs_journal (s : State) (x : Vector InputRec 12) : (s.setInputs x).journal = s.journal := rfl
@[simp] theorem State.setInputs_port (s : State) (x : Vector InputRec 12) : (s.setInputs x).port = s.port := rfl
@[simp] theorem State.setInputs_pins (s : State) (x : Vector InputRec 12) : (s.setInputs x).pins = s.pins := rfl
@[simp] theorem State.setInputs_freeIndex (s : State) (x : Vector InputRec 12) : (s.setInputs x).freeIndex = s.freeIndex := rfl
@[simp] theorem State.setInputs_pending (s : State) (x : Vector InputRec 12) : (s.setInputs x).pending = s.pending := rfl
@[simp] theorem State.setHost_station (s : State) (x : HostDecoder) : (s.setHost x).station = s.station := rfl
@[simp] theorem State.setHost_cause (s : State) (x : HostDecoder) : (s.setHost x).cause = s.cause := rfl
@[simp] theorem State.setHost_stationCode (s : State) (x : HostDecoder) : (s.setHost x).stationCode = s.stationCode := rfl
@[simp] theorem State.setHost_addrCode (s : State) (x : HostDecoder) : (s.setHost x).addrCode = s.addrCode := rfl
@[simp] theorem State.setHost_profile (s : State) (x : HostDecoder) : (s.setHost x).profile = s.profile := rfl
@[simp] theorem State.setHost_loader (s : State) (x : HostDecoder) : (s.setHost x).loader = s.loader := rfl
@[simp] theorem State.setHost_lif (s : State) (x : HostDecoder) : (s.setHost x).lif = s.lif := rfl
@[simp] theorem State.setHost_owner (s : State) (x : HostDecoder) : (s.setHost x).owner = s.owner := rfl
@[simp] theorem State.setHost_slots (s : State) (x : HostDecoder) : (s.setHost x).slots = s.slots := rfl
@[simp] theorem State.setHost_chans (s : State) (x : HostDecoder) : (s.setHost x).chans = s.chans := rfl
@[simp] theorem State.setHost_soft (s : State) (x : HostDecoder) : (s.setHost x).soft = s.soft := rfl
@[simp] theorem State.setHost_inputs (s : State) (x : HostDecoder) : (s.setHost x).inputs = s.inputs := rfl
@[simp] theorem State.setHost_host (s : State) (x : HostDecoder) : (s.setHost x).host = x := rfl
@[simp] theorem State.setHost_patterns (s : State) (x : HostDecoder) : (s.setHost x).patterns = s.patterns := rfl
@[simp] theorem State.setHost_conds (s : State) (x : HostDecoder) : (s.setHost x).conds = s.conds := rfl
@[simp] theorem State.setHost_blink (s : State) (x : HostDecoder) : (s.setHost x).blink = s.blink := rfl
@[simp] theorem State.setHost_journal (s : State) (x : HostDecoder) : (s.setHost x).journal = s.journal := rfl
@[simp] theorem State.setHost_port (s : State) (x : HostDecoder) : (s.setHost x).port = s.port := rfl
@[simp] theorem State.setHost_pins (s : State) (x : HostDecoder) : (s.setHost x).pins = s.pins := rfl
@[simp] theorem State.setHost_freeIndex (s : State) (x : HostDecoder) : (s.setHost x).freeIndex = s.freeIndex := rfl
@[simp] theorem State.setHost_pending (s : State) (x : HostDecoder) : (s.setHost x).pending = s.pending := rfl
@[simp] theorem State.setPatterns_station (s : State) (x : Vector PatRec 8) : (s.setPatterns x).station = s.station := rfl
@[simp] theorem State.setPatterns_cause (s : State) (x : Vector PatRec 8) : (s.setPatterns x).cause = s.cause := rfl
@[simp] theorem State.setPatterns_stationCode (s : State) (x : Vector PatRec 8) : (s.setPatterns x).stationCode = s.stationCode := rfl
@[simp] theorem State.setPatterns_addrCode (s : State) (x : Vector PatRec 8) : (s.setPatterns x).addrCode = s.addrCode := rfl
@[simp] theorem State.setPatterns_profile (s : State) (x : Vector PatRec 8) : (s.setPatterns x).profile = s.profile := rfl
@[simp] theorem State.setPatterns_loader (s : State) (x : Vector PatRec 8) : (s.setPatterns x).loader = s.loader := rfl
@[simp] theorem State.setPatterns_lif (s : State) (x : Vector PatRec 8) : (s.setPatterns x).lif = s.lif := rfl
@[simp] theorem State.setPatterns_owner (s : State) (x : Vector PatRec 8) : (s.setPatterns x).owner = s.owner := rfl
@[simp] theorem State.setPatterns_slots (s : State) (x : Vector PatRec 8) : (s.setPatterns x).slots = s.slots := rfl
@[simp] theorem State.setPatterns_chans (s : State) (x : Vector PatRec 8) : (s.setPatterns x).chans = s.chans := rfl
@[simp] theorem State.setPatterns_soft (s : State) (x : Vector PatRec 8) : (s.setPatterns x).soft = s.soft := rfl
@[simp] theorem State.setPatterns_inputs (s : State) (x : Vector PatRec 8) : (s.setPatterns x).inputs = s.inputs := rfl
@[simp] theorem State.setPatterns_host (s : State) (x : Vector PatRec 8) : (s.setPatterns x).host = s.host := rfl
@[simp] theorem State.setPatterns_patterns (s : State) (x : Vector PatRec 8) : (s.setPatterns x).patterns = x := rfl
@[simp] theorem State.setPatterns_conds (s : State) (x : Vector PatRec 8) : (s.setPatterns x).conds = s.conds := rfl
@[simp] theorem State.setPatterns_blink (s : State) (x : Vector PatRec 8) : (s.setPatterns x).blink = s.blink := rfl
@[simp] theorem State.setPatterns_journal (s : State) (x : Vector PatRec 8) : (s.setPatterns x).journal = s.journal := rfl
@[simp] theorem State.setPatterns_port (s : State) (x : Vector PatRec 8) : (s.setPatterns x).port = s.port := rfl
@[simp] theorem State.setPatterns_pins (s : State) (x : Vector PatRec 8) : (s.setPatterns x).pins = s.pins := rfl
@[simp] theorem State.setPatterns_freeIndex (s : State) (x : Vector PatRec 8) : (s.setPatterns x).freeIndex = s.freeIndex := rfl
@[simp] theorem State.setPatterns_pending (s : State) (x : Vector PatRec 8) : (s.setPatterns x).pending = s.pending := rfl
@[simp] theorem State.setConds_station (s : State) (x : Vector Bool 7) : (s.setConds x).station = s.station := rfl
@[simp] theorem State.setConds_cause (s : State) (x : Vector Bool 7) : (s.setConds x).cause = s.cause := rfl
@[simp] theorem State.setConds_stationCode (s : State) (x : Vector Bool 7) : (s.setConds x).stationCode = s.stationCode := rfl
@[simp] theorem State.setConds_addrCode (s : State) (x : Vector Bool 7) : (s.setConds x).addrCode = s.addrCode := rfl
@[simp] theorem State.setConds_profile (s : State) (x : Vector Bool 7) : (s.setConds x).profile = s.profile := rfl
@[simp] theorem State.setConds_loader (s : State) (x : Vector Bool 7) : (s.setConds x).loader = s.loader := rfl
@[simp] theorem State.setConds_lif (s : State) (x : Vector Bool 7) : (s.setConds x).lif = s.lif := rfl
@[simp] theorem State.setConds_owner (s : State) (x : Vector Bool 7) : (s.setConds x).owner = s.owner := rfl
@[simp] theorem State.setConds_slots (s : State) (x : Vector Bool 7) : (s.setConds x).slots = s.slots := rfl
@[simp] theorem State.setConds_chans (s : State) (x : Vector Bool 7) : (s.setConds x).chans = s.chans := rfl
@[simp] theorem State.setConds_soft (s : State) (x : Vector Bool 7) : (s.setConds x).soft = s.soft := rfl
@[simp] theorem State.setConds_inputs (s : State) (x : Vector Bool 7) : (s.setConds x).inputs = s.inputs := rfl
@[simp] theorem State.setConds_host (s : State) (x : Vector Bool 7) : (s.setConds x).host = s.host := rfl
@[simp] theorem State.setConds_patterns (s : State) (x : Vector Bool 7) : (s.setConds x).patterns = s.patterns := rfl
@[simp] theorem State.setConds_conds (s : State) (x : Vector Bool 7) : (s.setConds x).conds = x := rfl
@[simp] theorem State.setConds_blink (s : State) (x : Vector Bool 7) : (s.setConds x).blink = s.blink := rfl
@[simp] theorem State.setConds_journal (s : State) (x : Vector Bool 7) : (s.setConds x).journal = s.journal := rfl
@[simp] theorem State.setConds_port (s : State) (x : Vector Bool 7) : (s.setConds x).port = s.port := rfl
@[simp] theorem State.setConds_pins (s : State) (x : Vector Bool 7) : (s.setConds x).pins = s.pins := rfl
@[simp] theorem State.setConds_freeIndex (s : State) (x : Vector Bool 7) : (s.setConds x).freeIndex = s.freeIndex := rfl
@[simp] theorem State.setConds_pending (s : State) (x : Vector Bool 7) : (s.setConds x).pending = s.pending := rfl
@[simp] theorem State.setBlink_station (s : State) (x : Blink) : (s.setBlink x).station = s.station := rfl
@[simp] theorem State.setBlink_cause (s : State) (x : Blink) : (s.setBlink x).cause = s.cause := rfl
@[simp] theorem State.setBlink_stationCode (s : State) (x : Blink) : (s.setBlink x).stationCode = s.stationCode := rfl
@[simp] theorem State.setBlink_addrCode (s : State) (x : Blink) : (s.setBlink x).addrCode = s.addrCode := rfl
@[simp] theorem State.setBlink_profile (s : State) (x : Blink) : (s.setBlink x).profile = s.profile := rfl
@[simp] theorem State.setBlink_loader (s : State) (x : Blink) : (s.setBlink x).loader = s.loader := rfl
@[simp] theorem State.setBlink_lif (s : State) (x : Blink) : (s.setBlink x).lif = s.lif := rfl
@[simp] theorem State.setBlink_owner (s : State) (x : Blink) : (s.setBlink x).owner = s.owner := rfl
@[simp] theorem State.setBlink_slots (s : State) (x : Blink) : (s.setBlink x).slots = s.slots := rfl
@[simp] theorem State.setBlink_chans (s : State) (x : Blink) : (s.setBlink x).chans = s.chans := rfl
@[simp] theorem State.setBlink_soft (s : State) (x : Blink) : (s.setBlink x).soft = s.soft := rfl
@[simp] theorem State.setBlink_inputs (s : State) (x : Blink) : (s.setBlink x).inputs = s.inputs := rfl
@[simp] theorem State.setBlink_host (s : State) (x : Blink) : (s.setBlink x).host = s.host := rfl
@[simp] theorem State.setBlink_patterns (s : State) (x : Blink) : (s.setBlink x).patterns = s.patterns := rfl
@[simp] theorem State.setBlink_conds (s : State) (x : Blink) : (s.setBlink x).conds = s.conds := rfl
@[simp] theorem State.setBlink_blink (s : State) (x : Blink) : (s.setBlink x).blink = x := rfl
@[simp] theorem State.setBlink_journal (s : State) (x : Blink) : (s.setBlink x).journal = s.journal := rfl
@[simp] theorem State.setBlink_port (s : State) (x : Blink) : (s.setBlink x).port = s.port := rfl
@[simp] theorem State.setBlink_pins (s : State) (x : Blink) : (s.setBlink x).pins = s.pins := rfl
@[simp] theorem State.setBlink_freeIndex (s : State) (x : Blink) : (s.setBlink x).freeIndex = s.freeIndex := rfl
@[simp] theorem State.setBlink_pending (s : State) (x : Blink) : (s.setBlink x).pending = s.pending := rfl
@[simp] theorem State.setJournal_station (s : State) (x : Journal) : (s.setJournal x).station = s.station := rfl
@[simp] theorem State.setJournal_cause (s : State) (x : Journal) : (s.setJournal x).cause = s.cause := rfl
@[simp] theorem State.setJournal_stationCode (s : State) (x : Journal) : (s.setJournal x).stationCode = s.stationCode := rfl
@[simp] theorem State.setJournal_addrCode (s : State) (x : Journal) : (s.setJournal x).addrCode = s.addrCode := rfl
@[simp] theorem State.setJournal_profile (s : State) (x : Journal) : (s.setJournal x).profile = s.profile := rfl
@[simp] theorem State.setJournal_loader (s : State) (x : Journal) : (s.setJournal x).loader = s.loader := rfl
@[simp] theorem State.setJournal_lif (s : State) (x : Journal) : (s.setJournal x).lif = s.lif := rfl
@[simp] theorem State.setJournal_owner (s : State) (x : Journal) : (s.setJournal x).owner = s.owner := rfl
@[simp] theorem State.setJournal_slots (s : State) (x : Journal) : (s.setJournal x).slots = s.slots := rfl
@[simp] theorem State.setJournal_chans (s : State) (x : Journal) : (s.setJournal x).chans = s.chans := rfl
@[simp] theorem State.setJournal_soft (s : State) (x : Journal) : (s.setJournal x).soft = s.soft := rfl
@[simp] theorem State.setJournal_inputs (s : State) (x : Journal) : (s.setJournal x).inputs = s.inputs := rfl
@[simp] theorem State.setJournal_host (s : State) (x : Journal) : (s.setJournal x).host = s.host := rfl
@[simp] theorem State.setJournal_patterns (s : State) (x : Journal) : (s.setJournal x).patterns = s.patterns := rfl
@[simp] theorem State.setJournal_conds (s : State) (x : Journal) : (s.setJournal x).conds = s.conds := rfl
@[simp] theorem State.setJournal_blink (s : State) (x : Journal) : (s.setJournal x).blink = s.blink := rfl
@[simp] theorem State.setJournal_journal (s : State) (x : Journal) : (s.setJournal x).journal = x := rfl
@[simp] theorem State.setJournal_port (s : State) (x : Journal) : (s.setJournal x).port = s.port := rfl
@[simp] theorem State.setJournal_pins (s : State) (x : Journal) : (s.setJournal x).pins = s.pins := rfl
@[simp] theorem State.setJournal_freeIndex (s : State) (x : Journal) : (s.setJournal x).freeIndex = s.freeIndex := rfl
@[simp] theorem State.setJournal_pending (s : State) (x : Journal) : (s.setJournal x).pending = s.pending := rfl
@[simp] theorem State.setPort_station (s : State) (x : Port) : (s.setPort x).station = s.station := rfl
@[simp] theorem State.setPort_cause (s : State) (x : Port) : (s.setPort x).cause = s.cause := rfl
@[simp] theorem State.setPort_stationCode (s : State) (x : Port) : (s.setPort x).stationCode = s.stationCode := rfl
@[simp] theorem State.setPort_addrCode (s : State) (x : Port) : (s.setPort x).addrCode = s.addrCode := rfl
@[simp] theorem State.setPort_profile (s : State) (x : Port) : (s.setPort x).profile = s.profile := rfl
@[simp] theorem State.setPort_loader (s : State) (x : Port) : (s.setPort x).loader = s.loader := rfl
@[simp] theorem State.setPort_lif (s : State) (x : Port) : (s.setPort x).lif = s.lif := rfl
@[simp] theorem State.setPort_owner (s : State) (x : Port) : (s.setPort x).owner = s.owner := rfl
@[simp] theorem State.setPort_slots (s : State) (x : Port) : (s.setPort x).slots = s.slots := rfl
@[simp] theorem State.setPort_chans (s : State) (x : Port) : (s.setPort x).chans = s.chans := rfl
@[simp] theorem State.setPort_soft (s : State) (x : Port) : (s.setPort x).soft = s.soft := rfl
@[simp] theorem State.setPort_inputs (s : State) (x : Port) : (s.setPort x).inputs = s.inputs := rfl
@[simp] theorem State.setPort_host (s : State) (x : Port) : (s.setPort x).host = s.host := rfl
@[simp] theorem State.setPort_patterns (s : State) (x : Port) : (s.setPort x).patterns = s.patterns := rfl
@[simp] theorem State.setPort_conds (s : State) (x : Port) : (s.setPort x).conds = s.conds := rfl
@[simp] theorem State.setPort_blink (s : State) (x : Port) : (s.setPort x).blink = s.blink := rfl
@[simp] theorem State.setPort_journal (s : State) (x : Port) : (s.setPort x).journal = s.journal := rfl
@[simp] theorem State.setPort_port (s : State) (x : Port) : (s.setPort x).port = x := rfl
@[simp] theorem State.setPort_pins (s : State) (x : Port) : (s.setPort x).pins = s.pins := rfl
@[simp] theorem State.setPort_freeIndex (s : State) (x : Port) : (s.setPort x).freeIndex = s.freeIndex := rfl
@[simp] theorem State.setPort_pending (s : State) (x : Port) : (s.setPort x).pending = s.pending := rfl
@[simp] theorem State.setPins_station (s : State) (x : Pins) : (s.setPins x).station = s.station := rfl
@[simp] theorem State.setPins_cause (s : State) (x : Pins) : (s.setPins x).cause = s.cause := rfl
@[simp] theorem State.setPins_stationCode (s : State) (x : Pins) : (s.setPins x).stationCode = s.stationCode := rfl
@[simp] theorem State.setPins_addrCode (s : State) (x : Pins) : (s.setPins x).addrCode = s.addrCode := rfl
@[simp] theorem State.setPins_profile (s : State) (x : Pins) : (s.setPins x).profile = s.profile := rfl
@[simp] theorem State.setPins_loader (s : State) (x : Pins) : (s.setPins x).loader = s.loader := rfl
@[simp] theorem State.setPins_lif (s : State) (x : Pins) : (s.setPins x).lif = s.lif := rfl
@[simp] theorem State.setPins_owner (s : State) (x : Pins) : (s.setPins x).owner = s.owner := rfl
@[simp] theorem State.setPins_slots (s : State) (x : Pins) : (s.setPins x).slots = s.slots := rfl
@[simp] theorem State.setPins_chans (s : State) (x : Pins) : (s.setPins x).chans = s.chans := rfl
@[simp] theorem State.setPins_soft (s : State) (x : Pins) : (s.setPins x).soft = s.soft := rfl
@[simp] theorem State.setPins_inputs (s : State) (x : Pins) : (s.setPins x).inputs = s.inputs := rfl
@[simp] theorem State.setPins_host (s : State) (x : Pins) : (s.setPins x).host = s.host := rfl
@[simp] theorem State.setPins_patterns (s : State) (x : Pins) : (s.setPins x).patterns = s.patterns := rfl
@[simp] theorem State.setPins_conds (s : State) (x : Pins) : (s.setPins x).conds = s.conds := rfl
@[simp] theorem State.setPins_blink (s : State) (x : Pins) : (s.setPins x).blink = s.blink := rfl
@[simp] theorem State.setPins_journal (s : State) (x : Pins) : (s.setPins x).journal = s.journal := rfl
@[simp] theorem State.setPins_port (s : State) (x : Pins) : (s.setPins x).port = s.port := rfl
@[simp] theorem State.setPins_pins (s : State) (x : Pins) : (s.setPins x).pins = x := rfl
@[simp] theorem State.setPins_freeIndex (s : State) (x : Pins) : (s.setPins x).freeIndex = s.freeIndex := rfl
@[simp] theorem State.setPins_pending (s : State) (x : Pins) : (s.setPins x).pending = s.pending := rfl
@[simp] theorem State.setFreeIndex_station (s : State) (x : Nat) : (s.setFreeIndex x).station = s.station := rfl
@[simp] theorem State.setFreeIndex_cause (s : State) (x : Nat) : (s.setFreeIndex x).cause = s.cause := rfl
@[simp] theorem State.setFreeIndex_stationCode (s : State) (x : Nat) : (s.setFreeIndex x).stationCode = s.stationCode := rfl
@[simp] theorem State.setFreeIndex_addrCode (s : State) (x : Nat) : (s.setFreeIndex x).addrCode = s.addrCode := rfl
@[simp] theorem State.setFreeIndex_profile (s : State) (x : Nat) : (s.setFreeIndex x).profile = s.profile := rfl
@[simp] theorem State.setFreeIndex_loader (s : State) (x : Nat) : (s.setFreeIndex x).loader = s.loader := rfl
@[simp] theorem State.setFreeIndex_lif (s : State) (x : Nat) : (s.setFreeIndex x).lif = s.lif := rfl
@[simp] theorem State.setFreeIndex_owner (s : State) (x : Nat) : (s.setFreeIndex x).owner = s.owner := rfl
@[simp] theorem State.setFreeIndex_slots (s : State) (x : Nat) : (s.setFreeIndex x).slots = s.slots := rfl
@[simp] theorem State.setFreeIndex_chans (s : State) (x : Nat) : (s.setFreeIndex x).chans = s.chans := rfl
@[simp] theorem State.setFreeIndex_soft (s : State) (x : Nat) : (s.setFreeIndex x).soft = s.soft := rfl
@[simp] theorem State.setFreeIndex_inputs (s : State) (x : Nat) : (s.setFreeIndex x).inputs = s.inputs := rfl
@[simp] theorem State.setFreeIndex_host (s : State) (x : Nat) : (s.setFreeIndex x).host = s.host := rfl
@[simp] theorem State.setFreeIndex_patterns (s : State) (x : Nat) : (s.setFreeIndex x).patterns = s.patterns := rfl
@[simp] theorem State.setFreeIndex_conds (s : State) (x : Nat) : (s.setFreeIndex x).conds = s.conds := rfl
@[simp] theorem State.setFreeIndex_blink (s : State) (x : Nat) : (s.setFreeIndex x).blink = s.blink := rfl
@[simp] theorem State.setFreeIndex_journal (s : State) (x : Nat) : (s.setFreeIndex x).journal = s.journal := rfl
@[simp] theorem State.setFreeIndex_port (s : State) (x : Nat) : (s.setFreeIndex x).port = s.port := rfl
@[simp] theorem State.setFreeIndex_pins (s : State) (x : Nat) : (s.setFreeIndex x).pins = s.pins := rfl
@[simp] theorem State.setFreeIndex_freeIndex (s : State) (x : Nat) : (s.setFreeIndex x).freeIndex = x := rfl
@[simp] theorem State.setFreeIndex_pending (s : State) (x : Nat) : (s.setFreeIndex x).pending = s.pending := rfl
@[simp] theorem State.setPending_station (s : State) (x : List Instr) : (s.setPending x).station = s.station := rfl
@[simp] theorem State.setPending_cause (s : State) (x : List Instr) : (s.setPending x).cause = s.cause := rfl
@[simp] theorem State.setPending_stationCode (s : State) (x : List Instr) : (s.setPending x).stationCode = s.stationCode := rfl
@[simp] theorem State.setPending_addrCode (s : State) (x : List Instr) : (s.setPending x).addrCode = s.addrCode := rfl
@[simp] theorem State.setPending_profile (s : State) (x : List Instr) : (s.setPending x).profile = s.profile := rfl
@[simp] theorem State.setPending_loader (s : State) (x : List Instr) : (s.setPending x).loader = s.loader := rfl
@[simp] theorem State.setPending_lif (s : State) (x : List Instr) : (s.setPending x).lif = s.lif := rfl
@[simp] theorem State.setPending_owner (s : State) (x : List Instr) : (s.setPending x).owner = s.owner := rfl
@[simp] theorem State.setPending_slots (s : State) (x : List Instr) : (s.setPending x).slots = s.slots := rfl
@[simp] theorem State.setPending_chans (s : State) (x : List Instr) : (s.setPending x).chans = s.chans := rfl
@[simp] theorem State.setPending_soft (s : State) (x : List Instr) : (s.setPending x).soft = s.soft := rfl
@[simp] theorem State.setPending_inputs (s : State) (x : List Instr) : (s.setPending x).inputs = s.inputs := rfl
@[simp] theorem State.setPending_host (s : State) (x : List Instr) : (s.setPending x).host = s.host := rfl
@[simp] theorem State.setPending_patterns (s : State) (x : List Instr) : (s.setPending x).patterns = s.patterns := rfl
@[simp] theorem State.setPending_conds (s : State) (x : List Instr) : (s.setPending x).conds = s.conds := rfl
@[simp] theorem State.setPending_blink (s : State) (x : List Instr) : (s.setPending x).blink = s.blink := rfl
@[simp] theorem State.setPending_journal (s : State) (x : List Instr) : (s.setPending x).journal = s.journal := rfl
@[simp] theorem State.setPending_port (s : State) (x : List Instr) : (s.setPending x).port = s.port := rfl
@[simp] theorem State.setPending_pins (s : State) (x : List Instr) : (s.setPending x).pins = s.pins := rfl
@[simp] theorem State.setPending_freeIndex (s : State) (x : List Instr) : (s.setPending x).freeIndex = s.freeIndex := rfl
@[simp] theorem State.setPending_pending (s : State) (x : List Instr) : (s.setPending x).pending = x := rfl

/-- Two states with the same fields are the same state. -/
theorem State.ext_fields {s t : State}
    (h_station : s.station = t.station)
    (h_cause : s.cause = t.cause)
    (h_stationCode : s.stationCode = t.stationCode)
    (h_addrCode : s.addrCode = t.addrCode)
    (h_profile : s.profile = t.profile)
    (h_loader : s.loader = t.loader)
    (h_lif : s.lif = t.lif)
    (h_owner : s.owner = t.owner)
    (h_slots : s.slots = t.slots)
    (h_chans : s.chans = t.chans)
    (h_soft : s.soft = t.soft)
    (h_inputs : s.inputs = t.inputs)
    (h_host : s.host = t.host)
    (h_patterns : s.patterns = t.patterns)
    (h_conds : s.conds = t.conds)
    (h_blink : s.blink = t.blink)
    (h_journal : s.journal = t.journal)
    (h_port : s.port = t.port)
    (h_pins : s.pins = t.pins)
    (h_freeIndex : s.freeIndex = t.freeIndex)
    (h_pending : s.pending = t.pending)
    : s = t := by
  cases s; cases t; simp_all

end Sys2Proof.Machine
end

