-- ==== Sys2Proof/Laws/Ops.lean ====
section
/-! SUPPORT. What each shared operation leaves alone: one lemma per operation. -/

namespace Sys2Proof.Machine

open Sys2Proof

/-- `sourceChange` touches only: chans. -/
@[simp] theorem sourceChange_keeps (src : Source) (v : Level) (s : State) :
    (sourceChange src v s).station = s.station ∧ (sourceChange src v s).cause = s.cause
      ∧ (sourceChange src v s).stationCode = s.stationCode
      ∧ (sourceChange src v s).addrCode = s.addrCode ∧ (sourceChange src v s).profile = s.profile
      ∧ (sourceChange src v s).loader = s.loader ∧ (sourceChange src v s).lif = s.lif
      ∧ (sourceChange src v s).owner = s.owner ∧ (sourceChange src v s).slots = s.slots
      ∧ (sourceChange src v s).soft = s.soft ∧ (sourceChange src v s).inputs = s.inputs
      ∧ (sourceChange src v s).host = s.host ∧ (sourceChange src v s).patterns = s.patterns
      ∧ (sourceChange src v s).conds = s.conds ∧ (sourceChange src v s).blink = s.blink
      ∧ (sourceChange src v s).journal = s.journal ∧ (sourceChange src v s).port = s.port
      ∧ (sourceChange src v s).pins = s.pins ∧ (sourceChange src v s).freeIndex = s.freeIndex
      ∧ (sourceChange src v s).pending = s.pending := by
  unfold sourceChange
  simp

/-- `setSoftLevel` touches only: soft, chans. -/
@[simp] theorem setSoftLevel_keeps (k : Fin 4) (v : Level) (s : State) :
    (setSoftLevel k v s).station = s.station ∧ (setSoftLevel k v s).cause = s.cause
      ∧ (setSoftLevel k v s).stationCode = s.stationCode
      ∧ (setSoftLevel k v s).addrCode = s.addrCode ∧ (setSoftLevel k v s).profile = s.profile
      ∧ (setSoftLevel k v s).loader = s.loader ∧ (setSoftLevel k v s).lif = s.lif
      ∧ (setSoftLevel k v s).owner = s.owner ∧ (setSoftLevel k v s).slots = s.slots
      ∧ (setSoftLevel k v s).inputs = s.inputs ∧ (setSoftLevel k v s).host = s.host
      ∧ (setSoftLevel k v s).patterns = s.patterns ∧ (setSoftLevel k v s).conds = s.conds
      ∧ (setSoftLevel k v s).blink = s.blink ∧ (setSoftLevel k v s).journal = s.journal
      ∧ (setSoftLevel k v s).port = s.port ∧ (setSoftLevel k v s).pins = s.pins
      ∧ (setSoftLevel k v s).freeIndex = s.freeIndex ∧ (setSoftLevel k v s).pending = s.pending := by
  unfold setSoftLevel
  (repeat' split) <;> simp

/-- `setInputOutput` touches only: inputs, chans. -/
@[simp] theorem setInputOutput_keeps (i : Fin 12) (v : Level) (s : State) :
    (setInputOutput i v s).station = s.station ∧ (setInputOutput i v s).cause = s.cause
      ∧ (setInputOutput i v s).stationCode = s.stationCode
      ∧ (setInputOutput i v s).addrCode = s.addrCode ∧ (setInputOutput i v s).profile = s.profile
      ∧ (setInputOutput i v s).loader = s.loader ∧ (setInputOutput i v s).lif = s.lif
      ∧ (setInputOutput i v s).owner = s.owner ∧ (setInputOutput i v s).slots = s.slots
      ∧ (setInputOutput i v s).soft = s.soft ∧ (setInputOutput i v s).host = s.host
      ∧ (setInputOutput i v s).patterns = s.patterns ∧ (setInputOutput i v s).conds = s.conds
      ∧ (setInputOutput i v s).blink = s.blink ∧ (setInputOutput i v s).journal = s.journal
      ∧ (setInputOutput i v s).port = s.port ∧ (setInputOutput i v s).pins = s.pins
      ∧ (setInputOutput i v s).freeIndex = s.freeIndex ∧ (setInputOutput i v s).pending = s.pending := by
  unfold setInputOutput
  (repeat' split) <;> simp

/-- `setPatternOutput` touches only: patterns, chans. -/
@[simp] theorem setPatternOutput_keeps (p : Fin 8) (v : Level) (s : State) :
    (setPatternOutput p v s).station = s.station ∧ (setPatternOutput p v s).cause = s.cause
      ∧ (setPatternOutput p v s).stationCode = s.stationCode
      ∧ (setPatternOutput p v s).addrCode = s.addrCode
      ∧ (setPatternOutput p v s).profile = s.profile ∧ (setPatternOutput p v s).loader = s.loader
      ∧ (setPatternOutput p v s).lif = s.lif ∧ (setPatternOutput p v s).owner = s.owner
      ∧ (setPatternOutput p v s).slots = s.slots ∧ (setPatternOutput p v s).soft = s.soft
      ∧ (setPatternOutput p v s).inputs = s.inputs ∧ (setPatternOutput p v s).host = s.host
      ∧ (setPatternOutput p v s).conds = s.conds ∧ (setPatternOutput p v s).blink = s.blink
      ∧ (setPatternOutput p v s).journal = s.journal ∧ (setPatternOutput p v s).port = s.port
      ∧ (setPatternOutput p v s).pins = s.pins ∧ (setPatternOutput p v s).freeIndex = s.freeIndex
      ∧ (setPatternOutput p v s).pending = s.pending := by
  unfold setPatternOutput
  (repeat' split) <;> simp

/-- `setCond` touches only: conds, chans. -/
@[simp] theorem setCond_keeps (c : Fin 7) (s : State) :
    (setCond c s).station = s.station ∧ (setCond c s).cause = s.cause
      ∧ (setCond c s).stationCode = s.stationCode ∧ (setCond c s).addrCode = s.addrCode
      ∧ (setCond c s).profile = s.profile ∧ (setCond c s).loader = s.loader
      ∧ (setCond c s).lif = s.lif ∧ (setCond c s).owner = s.owner ∧ (setCond c s).slots = s.slots
      ∧ (setCond c s).soft = s.soft ∧ (setCond c s).inputs = s.inputs ∧ (setCond c s).host = s.host
      ∧ (setCond c s).patterns = s.patterns ∧ (setCond c s).blink = s.blink
      ∧ (setCond c s).journal = s.journal ∧ (setCond c s).port = s.port
      ∧ (setCond c s).pins = s.pins ∧ (setCond c s).freeIndex = s.freeIndex
      ∧ (setCond c s).pending = s.pending := by
  unfold setCond
  (repeat' split) <;> simp

/-- `clearConds` touches only: conds, chans. -/
@[simp] theorem clearConds_keeps (mask : Vector Bool 7) (s : State) :
    (clearConds mask s).station = s.station ∧ (clearConds mask s).cause = s.cause
      ∧ (clearConds mask s).stationCode = s.stationCode ∧ (clearConds mask s).addrCode = s.addrCode
      ∧ (clearConds mask s).profile = s.profile ∧ (clearConds mask s).loader = s.loader
      ∧ (clearConds mask s).lif = s.lif ∧ (clearConds mask s).owner = s.owner
      ∧ (clearConds mask s).slots = s.slots ∧ (clearConds mask s).soft = s.soft
      ∧ (clearConds mask s).inputs = s.inputs ∧ (clearConds mask s).host = s.host
      ∧ (clearConds mask s).patterns = s.patterns ∧ (clearConds mask s).blink = s.blink
      ∧ (clearConds mask s).journal = s.journal ∧ (clearConds mask s).port = s.port
      ∧ (clearConds mask s).pins = s.pins ∧ (clearConds mask s).freeIndex = s.freeIndex
      ∧ (clearConds mask s).pending = s.pending := by
  unfold clearConds
  dsimp only
  (repeat' split) <;> simp

/-- `generate` touches only: journal, conds, chans. -/
@[simp] theorem generate_keeps (body : RecordBody) (s : State) :
    (generate body s).station = s.station ∧ (generate body s).cause = s.cause
      ∧ (generate body s).stationCode = s.stationCode ∧ (generate body s).addrCode = s.addrCode
      ∧ (generate body s).profile = s.profile ∧ (generate body s).loader = s.loader
      ∧ (generate body s).lif = s.lif ∧ (generate body s).owner = s.owner
      ∧ (generate body s).slots = s.slots ∧ (generate body s).soft = s.soft
      ∧ (generate body s).inputs = s.inputs ∧ (generate body s).host = s.host
      ∧ (generate body s).patterns = s.patterns ∧ (generate body s).blink = s.blink
      ∧ (generate body s).port = s.port ∧ (generate body s).pins = s.pins
      ∧ (generate body s).freeIndex = s.freeIndex ∧ (generate body s).pending = s.pending := by
  unfold generate
  dsimp only
  (repeat' split) <;> simp

/-- `endHandOver` touches only: journal, port. -/
@[simp] theorem endHandOver_keeps (s : State) :
    (endHandOver s).station = s.station ∧ (endHandOver s).cause = s.cause
      ∧ (endHandOver s).stationCode = s.stationCode ∧ (endHandOver s).addrCode = s.addrCode
      ∧ (endHandOver s).profile = s.profile ∧ (endHandOver s).loader = s.loader
      ∧ (endHandOver s).lif = s.lif ∧ (endHandOver s).owner = s.owner
      ∧ (endHandOver s).slots = s.slots ∧ (endHandOver s).chans = s.chans
      ∧ (endHandOver s).soft = s.soft ∧ (endHandOver s).inputs = s.inputs
      ∧ (endHandOver s).host = s.host ∧ (endHandOver s).patterns = s.patterns
      ∧ (endHandOver s).conds = s.conds ∧ (endHandOver s).blink = s.blink
      ∧ (endHandOver s).pins = s.pins ∧ (endHandOver s).freeIndex = s.freeIndex
      ∧ (endHandOver s).pending = s.pending := by
  unfold endHandOver
  simp

end Sys2Proof.Machine
end

