-- ==== Sys2Proof/Laws/Inputs.lean ====
section
/-! SUPPORT. What each operation of input conditioning leaves alone. -/

namespace Sys2Proof.Machine

open Sys2Proof

/-- `setInputRec` touches only: inputs. -/
@[simp] theorem setInputRec_keeps (i : Fin 12) (r : InputRec) (s : State) :
    (setInputRec i r s).station = s.station ∧ (setInputRec i r s).cause = s.cause
      ∧ (setInputRec i r s).stationCode = s.stationCode ∧ (setInputRec i r s).addrCode = s.addrCode
      ∧ (setInputRec i r s).profile = s.profile ∧ (setInputRec i r s).loader = s.loader
      ∧ (setInputRec i r s).lif = s.lif ∧ (setInputRec i r s).owner = s.owner
      ∧ (setInputRec i r s).slots = s.slots ∧ (setInputRec i r s).chans = s.chans
      ∧ (setInputRec i r s).soft = s.soft ∧ (setInputRec i r s).host = s.host
      ∧ (setInputRec i r s).patterns = s.patterns ∧ (setInputRec i r s).conds = s.conds
      ∧ (setInputRec i r s).blink = s.blink ∧ (setInputRec i r s).journal = s.journal
      ∧ (setInputRec i r s).port = s.port ∧ (setInputRec i r s).pins = s.pins
      ∧ (setInputRec i r s).freeIndex = s.freeIndex ∧ (setInputRec i r s).pending = s.pending := by
  unfold setInputRec
  simp

/-- `modeActivation` touches only: inputs, chans. -/
@[simp] theorem modeActivation_keeps (i : Fin 12) (s : State) :
    (modeActivation i s).station = s.station ∧ (modeActivation i s).cause = s.cause
      ∧ (modeActivation i s).stationCode = s.stationCode
      ∧ (modeActivation i s).addrCode = s.addrCode ∧ (modeActivation i s).profile = s.profile
      ∧ (modeActivation i s).loader = s.loader ∧ (modeActivation i s).lif = s.lif
      ∧ (modeActivation i s).owner = s.owner ∧ (modeActivation i s).slots = s.slots
      ∧ (modeActivation i s).soft = s.soft ∧ (modeActivation i s).host = s.host
      ∧ (modeActivation i s).patterns = s.patterns ∧ (modeActivation i s).conds = s.conds
      ∧ (modeActivation i s).blink = s.blink ∧ (modeActivation i s).journal = s.journal
      ∧ (modeActivation i s).port = s.port ∧ (modeActivation i s).pins = s.pins
      ∧ (modeActivation i s).freeIndex = s.freeIndex ∧ (modeActivation i s).pending = s.pending := by
  unfold modeActivation
  (repeat' split) <;> simp

/-- `modeDeactivation` touches only: inputs, chans. -/
@[simp] theorem modeDeactivation_keeps (i : Fin 12) (s : State) :
    (modeDeactivation i s).station = s.station ∧ (modeDeactivation i s).cause = s.cause
      ∧ (modeDeactivation i s).stationCode = s.stationCode
      ∧ (modeDeactivation i s).addrCode = s.addrCode ∧ (modeDeactivation i s).profile = s.profile
      ∧ (modeDeactivation i s).loader = s.loader ∧ (modeDeactivation i s).lif = s.lif
      ∧ (modeDeactivation i s).owner = s.owner ∧ (modeDeactivation i s).slots = s.slots
      ∧ (modeDeactivation i s).soft = s.soft ∧ (modeDeactivation i s).host = s.host
      ∧ (modeDeactivation i s).patterns = s.patterns ∧ (modeDeactivation i s).conds = s.conds
      ∧ (modeDeactivation i s).blink = s.blink ∧ (modeDeactivation i s).journal = s.journal
      ∧ (modeDeactivation i s).port = s.port ∧ (modeDeactivation i s).pins = s.pins
      ∧ (modeDeactivation i s).freeIndex = s.freeIndex ∧ (modeDeactivation i s).pending = s.pending := by
  unfold modeDeactivation
  (repeat' split) <;> simp

/-- `filterTakes` touches only: inputs, chans. -/
@[simp] theorem filterTakes_keeps (i : Fin 12) (s : State) :
    (filterTakes i s).station = s.station ∧ (filterTakes i s).cause = s.cause
      ∧ (filterTakes i s).stationCode = s.stationCode ∧ (filterTakes i s).addrCode = s.addrCode
      ∧ (filterTakes i s).profile = s.profile ∧ (filterTakes i s).loader = s.loader
      ∧ (filterTakes i s).lif = s.lif ∧ (filterTakes i s).owner = s.owner
      ∧ (filterTakes i s).slots = s.slots ∧ (filterTakes i s).soft = s.soft
      ∧ (filterTakes i s).host = s.host ∧ (filterTakes i s).patterns = s.patterns
      ∧ (filterTakes i s).conds = s.conds ∧ (filterTakes i s).blink = s.blink
      ∧ (filterTakes i s).journal = s.journal ∧ (filterTakes i s).port = s.port
      ∧ (filterTakes i s).pins = s.pins ∧ (filterTakes i s).freeIndex = s.freeIndex
      ∧ (filterTakes i s).pending = s.pending := by
  unfold filterTakes
  dsimp only
  (repeat' split) <;> simp

/-- `takeSample` touches only: inputs, chans. -/
@[simp] theorem takeSample_keeps (i : Fin 12) (raw : RawSample) (s : State) :
    (takeSample i raw s).station = s.station ∧ (takeSample i raw s).cause = s.cause
      ∧ (takeSample i raw s).stationCode = s.stationCode
      ∧ (takeSample i raw s).addrCode = s.addrCode ∧ (takeSample i raw s).profile = s.profile
      ∧ (takeSample i raw s).loader = s.loader ∧ (takeSample i raw s).lif = s.lif
      ∧ (takeSample i raw s).owner = s.owner ∧ (takeSample i raw s).slots = s.slots
      ∧ (takeSample i raw s).soft = s.soft ∧ (takeSample i raw s).host = s.host
      ∧ (takeSample i raw s).patterns = s.patterns ∧ (takeSample i raw s).conds = s.conds
      ∧ (takeSample i raw s).blink = s.blink ∧ (takeSample i raw s).journal = s.journal
      ∧ (takeSample i raw s).port = s.port ∧ (takeSample i raw s).pins = s.pins
      ∧ (takeSample i raw s).freeIndex = s.freeIndex ∧ (takeSample i raw s).pending = s.pending := by
  unfold takeSample
  dsimp only
  (repeat' split) <;> simp

/-- `firstSample` touches only: inputs, chans. -/
@[simp] theorem firstSample_keeps (i : Fin 12) (s : State) :
    (firstSample i s).station = s.station ∧ (firstSample i s).cause = s.cause
      ∧ (firstSample i s).stationCode = s.stationCode ∧ (firstSample i s).addrCode = s.addrCode
      ∧ (firstSample i s).profile = s.profile ∧ (firstSample i s).loader = s.loader
      ∧ (firstSample i s).lif = s.lif ∧ (firstSample i s).owner = s.owner
      ∧ (firstSample i s).slots = s.slots ∧ (firstSample i s).soft = s.soft
      ∧ (firstSample i s).host = s.host ∧ (firstSample i s).patterns = s.patterns
      ∧ (firstSample i s).conds = s.conds ∧ (firstSample i s).blink = s.blink
      ∧ (firstSample i s).journal = s.journal ∧ (firstSample i s).port = s.port
      ∧ (firstSample i s).pins = s.pins ∧ (firstSample i s).freeIndex = s.freeIndex
      ∧ (firstSample i s).pending = s.pending := by
  unfold firstSample
  simp

/-- `firstSamples` touches only: inputs, chans. -/
@[simp] theorem firstSamples_keeps (s : State) :
    (firstSamples s).station = s.station ∧ (firstSamples s).cause = s.cause
      ∧ (firstSamples s).stationCode = s.stationCode ∧ (firstSamples s).addrCode = s.addrCode
      ∧ (firstSamples s).profile = s.profile ∧ (firstSamples s).loader = s.loader
      ∧ (firstSamples s).lif = s.lif ∧ (firstSamples s).owner = s.owner
      ∧ (firstSamples s).slots = s.slots ∧ (firstSamples s).soft = s.soft
      ∧ (firstSamples s).host = s.host ∧ (firstSamples s).patterns = s.patterns
      ∧ (firstSamples s).conds = s.conds ∧ (firstSamples s).blink = s.blink
      ∧ (firstSamples s).journal = s.journal ∧ (firstSamples s).port = s.port
      ∧ (firstSamples s).pins = s.pins ∧ (firstSamples s).freeIndex = s.freeIndex
      ∧ (firstSamples s).pending = s.pending := by
  unfold firstSamples
  generalize List.finRange 12 = l
  induction l generalizing s with
  | nil => simp
  | cons a l ih =>
    simp only [List.foldl_cons, ih]
    (repeat' split) <;> simp

/-- `dropMainInput` touches only: inputs, chans. -/
@[simp] theorem dropMainInput_keeps (i : Fin 12) (s : State) :
    (dropMainInput i s).station = s.station ∧ (dropMainInput i s).cause = s.cause
      ∧ (dropMainInput i s).stationCode = s.stationCode ∧ (dropMainInput i s).addrCode = s.addrCode
      ∧ (dropMainInput i s).profile = s.profile ∧ (dropMainInput i s).loader = s.loader
      ∧ (dropMainInput i s).lif = s.lif ∧ (dropMainInput i s).owner = s.owner
      ∧ (dropMainInput i s).slots = s.slots ∧ (dropMainInput i s).soft = s.soft
      ∧ (dropMainInput i s).host = s.host ∧ (dropMainInput i s).patterns = s.patterns
      ∧ (dropMainInput i s).conds = s.conds ∧ (dropMainInput i s).blink = s.blink
      ∧ (dropMainInput i s).journal = s.journal ∧ (dropMainInput i s).port = s.port
      ∧ (dropMainInput i s).pins = s.pins ∧ (dropMainInput i s).freeIndex = s.freeIndex
      ∧ (dropMainInput i s).pending = s.pending := by
  unfold dropMainInput
  simp

/-- `onMain dropMainInput` touches only: inputs, chans. -/
@[simp] theorem onMain_dropMainInput_keeps (s : State) :
    (onMain dropMainInput s).station = s.station ∧ (onMain dropMainInput s).cause = s.cause
      ∧ (onMain dropMainInput s).stationCode = s.stationCode
      ∧ (onMain dropMainInput s).addrCode = s.addrCode
      ∧ (onMain dropMainInput s).profile = s.profile ∧ (onMain dropMainInput s).loader = s.loader
      ∧ (onMain dropMainInput s).lif = s.lif ∧ (onMain dropMainInput s).owner = s.owner
      ∧ (onMain dropMainInput s).slots = s.slots ∧ (onMain dropMainInput s).soft = s.soft
      ∧ (onMain dropMainInput s).host = s.host ∧ (onMain dropMainInput s).patterns = s.patterns
      ∧ (onMain dropMainInput s).conds = s.conds ∧ (onMain dropMainInput s).blink = s.blink
      ∧ (onMain dropMainInput s).journal = s.journal ∧ (onMain dropMainInput s).port = s.port
      ∧ (onMain dropMainInput s).pins = s.pins ∧ (onMain dropMainInput s).freeIndex = s.freeIndex
      ∧ (onMain dropMainInput s).pending = s.pending := by
  unfold onMain
  generalize List.finRange 12 = l
  induction l generalizing s with
  | nil => simp
  | cons a l ih =>
    simp only [List.foldl_cons, ih]
    (repeat' split) <;> simp

/-- `onMain firstSample` touches only: inputs, chans. -/
@[simp] theorem onMain_firstSample_keeps (s : State) :
    (onMain firstSample s).station = s.station ∧ (onMain firstSample s).cause = s.cause
      ∧ (onMain firstSample s).stationCode = s.stationCode
      ∧ (onMain firstSample s).addrCode = s.addrCode ∧ (onMain firstSample s).profile = s.profile
      ∧ (onMain firstSample s).loader = s.loader ∧ (onMain firstSample s).lif = s.lif
      ∧ (onMain firstSample s).owner = s.owner ∧ (onMain firstSample s).slots = s.slots
      ∧ (onMain firstSample s).soft = s.soft ∧ (onMain firstSample s).host = s.host
      ∧ (onMain firstSample s).patterns = s.patterns ∧ (onMain firstSample s).conds = s.conds
      ∧ (onMain firstSample s).blink = s.blink ∧ (onMain firstSample s).journal = s.journal
      ∧ (onMain firstSample s).port = s.port ∧ (onMain firstSample s).pins = s.pins
      ∧ (onMain firstSample s).freeIndex = s.freeIndex ∧ (onMain firstSample s).pending = s.pending := by
  unfold onMain
  generalize List.finRange 12 = l
  induction l generalizing s with
  | nil => simp
  | cons a l ih =>
    simp only [List.foldl_cons, ih]
    (repeat' split) <;> simp

/-- `hostPowerChanged` touches only: inputs, chans. -/
@[simp] theorem hostPowerChanged_keeps (before : HostPower) (s : State) :
    (hostPowerChanged before s).station = s.station ∧ (hostPowerChanged before s).cause = s.cause
      ∧ (hostPowerChanged before s).stationCode = s.stationCode
      ∧ (hostPowerChanged before s).addrCode = s.addrCode
      ∧ (hostPowerChanged before s).profile = s.profile
      ∧ (hostPowerChanged before s).loader = s.loader ∧ (hostPowerChanged before s).lif = s.lif
      ∧ (hostPowerChanged before s).owner = s.owner ∧ (hostPowerChanged before s).slots = s.slots
      ∧ (hostPowerChanged before s).soft = s.soft ∧ (hostPowerChanged before s).host = s.host
      ∧ (hostPowerChanged before s).patterns = s.patterns
      ∧ (hostPowerChanged before s).conds = s.conds ∧ (hostPowerChanged before s).blink = s.blink
      ∧ (hostPowerChanged before s).journal = s.journal ∧ (hostPowerChanged before s).port = s.port
      ∧ (hostPowerChanged before s).pins = s.pins
      ∧ (hostPowerChanged before s).freeIndex = s.freeIndex
      ∧ (hostPowerChanged before s).pending = s.pending := by
  unfold hostPowerChanged
  first | (repeat' split) <;> simp

/-- `pinMoves` touches only: pins, inputs, chans. -/
@[simp] theorem pinMoves_keeps (i : Fin 12) (l : PinLevel) (s : State) :
    (pinMoves i l s).station = s.station ∧ (pinMoves i l s).cause = s.cause
      ∧ (pinMoves i l s).stationCode = s.stationCode ∧ (pinMoves i l s).addrCode = s.addrCode
      ∧ (pinMoves i l s).profile = s.profile ∧ (pinMoves i l s).loader = s.loader
      ∧ (pinMoves i l s).lif = s.lif ∧ (pinMoves i l s).owner = s.owner
      ∧ (pinMoves i l s).slots = s.slots ∧ (pinMoves i l s).soft = s.soft
      ∧ (pinMoves i l s).host = s.host ∧ (pinMoves i l s).patterns = s.patterns
      ∧ (pinMoves i l s).conds = s.conds ∧ (pinMoves i l s).blink = s.blink
      ∧ (pinMoves i l s).journal = s.journal ∧ (pinMoves i l s).port = s.port
      ∧ (pinMoves i l s).freeIndex = s.freeIndex ∧ (pinMoves i l s).pending = s.pending := by
  unfold pinMoves
  dsimp only
  (repeat' split) <;> simp

/-- `filterExpires` touches only: inputs, chans. -/
@[simp] theorem filterExpires_keeps (i : Fin 12) (s : State) :
    (filterExpires i s).station = s.station ∧ (filterExpires i s).cause = s.cause
      ∧ (filterExpires i s).stationCode = s.stationCode ∧ (filterExpires i s).addrCode = s.addrCode
      ∧ (filterExpires i s).profile = s.profile ∧ (filterExpires i s).loader = s.loader
      ∧ (filterExpires i s).lif = s.lif ∧ (filterExpires i s).owner = s.owner
      ∧ (filterExpires i s).slots = s.slots ∧ (filterExpires i s).soft = s.soft
      ∧ (filterExpires i s).host = s.host ∧ (filterExpires i s).patterns = s.patterns
      ∧ (filterExpires i s).conds = s.conds ∧ (filterExpires i s).blink = s.blink
      ∧ (filterExpires i s).journal = s.journal ∧ (filterExpires i s).port = s.port
      ∧ (filterExpires i s).pins = s.pins ∧ (filterExpires i s).freeIndex = s.freeIndex
      ∧ (filterExpires i s).pending = s.pending := by
  unfold filterExpires
  (repeat' split) <;> simp

/-- `hostPinMoves` touches only: pins, host. -/
@[simp] theorem hostPinMoves_keeps (pin : HostPin) (l : PinLevel) (s : State) :
    (hostPinMoves pin l s).station = s.station ∧ (hostPinMoves pin l s).cause = s.cause
      ∧ (hostPinMoves pin l s).stationCode = s.stationCode
      ∧ (hostPinMoves pin l s).addrCode = s.addrCode ∧ (hostPinMoves pin l s).profile = s.profile
      ∧ (hostPinMoves pin l s).loader = s.loader ∧ (hostPinMoves pin l s).lif = s.lif
      ∧ (hostPinMoves pin l s).owner = s.owner ∧ (hostPinMoves pin l s).slots = s.slots
      ∧ (hostPinMoves pin l s).chans = s.chans ∧ (hostPinMoves pin l s).soft = s.soft
      ∧ (hostPinMoves pin l s).inputs = s.inputs ∧ (hostPinMoves pin l s).patterns = s.patterns
      ∧ (hostPinMoves pin l s).conds = s.conds ∧ (hostPinMoves pin l s).blink = s.blink
      ∧ (hostPinMoves pin l s).journal = s.journal ∧ (hostPinMoves pin l s).port = s.port
      ∧ (hostPinMoves pin l s).freeIndex = s.freeIndex ∧ (hostPinMoves pin l s).pending = s.pending := by
  unfold hostPinMoves
  dsimp only
  (repeat' split) <;> simp

/-- `hostFilterExpires` touches only: host, inputs, chans. -/
@[simp] theorem hostFilterExpires_keeps (pin : HostPin) (s : State) :
    (hostFilterExpires pin s).station = s.station ∧ (hostFilterExpires pin s).cause = s.cause
      ∧ (hostFilterExpires pin s).stationCode = s.stationCode
      ∧ (hostFilterExpires pin s).addrCode = s.addrCode
      ∧ (hostFilterExpires pin s).profile = s.profile ∧ (hostFilterExpires pin s).loader = s.loader
      ∧ (hostFilterExpires pin s).lif = s.lif ∧ (hostFilterExpires pin s).owner = s.owner
      ∧ (hostFilterExpires pin s).slots = s.slots ∧ (hostFilterExpires pin s).soft = s.soft
      ∧ (hostFilterExpires pin s).patterns = s.patterns ∧ (hostFilterExpires pin s).conds = s.conds
      ∧ (hostFilterExpires pin s).blink = s.blink ∧ (hostFilterExpires pin s).journal = s.journal
      ∧ (hostFilterExpires pin s).port = s.port ∧ (hostFilterExpires pin s).pins = s.pins
      ∧ (hostFilterExpires pin s).freeIndex = s.freeIndex
      ∧ (hostFilterExpires pin s).pending = s.pending := by
  unfold hostFilterExpires
  (repeat' split) <;> simp

end Sys2Proof.Machine
end

