-- ==== Sys2Proof/Laws/Patterns.lean ====
section
/-! SUPPORT. What each operation of the pattern unit leaves alone. -/

namespace Sys2Proof.Machine

open Sys2Proof

/-- `enterStep` touches only: patterns. -/
@[simp] theorem enterStep_keeps (p : Fin 8) (k : Nat) (s : State) :
    (enterStep p k s).station = s.station ∧ (enterStep p k s).cause = s.cause
      ∧ (enterStep p k s).stationCode = s.stationCode ∧ (enterStep p k s).addrCode = s.addrCode
      ∧ (enterStep p k s).profile = s.profile ∧ (enterStep p k s).loader = s.loader
      ∧ (enterStep p k s).lif = s.lif ∧ (enterStep p k s).owner = s.owner
      ∧ (enterStep p k s).slots = s.slots ∧ (enterStep p k s).chans = s.chans
      ∧ (enterStep p k s).soft = s.soft ∧ (enterStep p k s).inputs = s.inputs
      ∧ (enterStep p k s).host = s.host ∧ (enterStep p k s).conds = s.conds
      ∧ (enterStep p k s).blink = s.blink ∧ (enterStep p k s).journal = s.journal
      ∧ (enterStep p k s).port = s.port ∧ (enterStep p k s).pins = s.pins
      ∧ (enterStep p k s).freeIndex = s.freeIndex ∧ (enterStep p k s).pending = s.pending := by
  unfold enterStep
  dsimp only
  (repeat' split) <;> simp

/-- `resetProgress` touches only: patterns. -/
@[simp] theorem resetProgress_keeps (p : Fin 8) (s : State) :
    (resetProgress p s).station = s.station ∧ (resetProgress p s).cause = s.cause
      ∧ (resetProgress p s).stationCode = s.stationCode ∧ (resetProgress p s).addrCode = s.addrCode
      ∧ (resetProgress p s).profile = s.profile ∧ (resetProgress p s).loader = s.loader
      ∧ (resetProgress p s).lif = s.lif ∧ (resetProgress p s).owner = s.owner
      ∧ (resetProgress p s).slots = s.slots ∧ (resetProgress p s).chans = s.chans
      ∧ (resetProgress p s).soft = s.soft ∧ (resetProgress p s).inputs = s.inputs
      ∧ (resetProgress p s).host = s.host ∧ (resetProgress p s).conds = s.conds
      ∧ (resetProgress p s).blink = s.blink ∧ (resetProgress p s).journal = s.journal
      ∧ (resetProgress p s).port = s.port ∧ (resetProgress p s).pins = s.pins
      ∧ (resetProgress p s).freeIndex = s.freeIndex ∧ (resetProgress p s).pending = s.pending := by
  unfold resetProgress
  simp

/-- `performAction` touches only: patterns, chans. -/
@[simp] theorem performAction_keeps (p : Fin 8) (s : State) :
    (performAction p s).station = s.station ∧ (performAction p s).cause = s.cause
      ∧ (performAction p s).stationCode = s.stationCode ∧ (performAction p s).addrCode = s.addrCode
      ∧ (performAction p s).profile = s.profile ∧ (performAction p s).loader = s.loader
      ∧ (performAction p s).lif = s.lif ∧ (performAction p s).owner = s.owner
      ∧ (performAction p s).slots = s.slots ∧ (performAction p s).soft = s.soft
      ∧ (performAction p s).inputs = s.inputs ∧ (performAction p s).host = s.host
      ∧ (performAction p s).conds = s.conds ∧ (performAction p s).blink = s.blink
      ∧ (performAction p s).journal = s.journal ∧ (performAction p s).port = s.port
      ∧ (performAction p s).pins = s.pins ∧ (performAction p s).freeIndex = s.freeIndex
      ∧ (performAction p s).pending = s.pending := by
  unfold performAction
  (repeat' split) <;> simp

/-- `setMatchLatch` touches only: patterns. -/
@[simp] theorem setMatchLatch_keeps (p : Fin 8) (s : State) :
    (setMatchLatch p s).station = s.station ∧ (setMatchLatch p s).cause = s.cause
      ∧ (setMatchLatch p s).stationCode = s.stationCode ∧ (setMatchLatch p s).addrCode = s.addrCode
      ∧ (setMatchLatch p s).profile = s.profile ∧ (setMatchLatch p s).loader = s.loader
      ∧ (setMatchLatch p s).lif = s.lif ∧ (setMatchLatch p s).owner = s.owner
      ∧ (setMatchLatch p s).slots = s.slots ∧ (setMatchLatch p s).chans = s.chans
      ∧ (setMatchLatch p s).soft = s.soft ∧ (setMatchLatch p s).inputs = s.inputs
      ∧ (setMatchLatch p s).host = s.host ∧ (setMatchLatch p s).conds = s.conds
      ∧ (setMatchLatch p s).blink = s.blink ∧ (setMatchLatch p s).journal = s.journal
      ∧ (setMatchLatch p s).port = s.port ∧ (setMatchLatch p s).pins = s.pins
      ∧ (setMatchLatch p s).freeIndex = s.freeIndex ∧ (setMatchLatch p s).pending = s.pending := by
  unfold setMatchLatch
  simp

/-- `matchRecord` touches only: journal, conds, chans. -/
@[simp] theorem matchRecord_keeps (p : Fin 8) (stamp : Option (BitVec 16)) (s : State) :
    (matchRecord p stamp s).station = s.station ∧ (matchRecord p stamp s).cause = s.cause
      ∧ (matchRecord p stamp s).stationCode = s.stationCode
      ∧ (matchRecord p stamp s).addrCode = s.addrCode ∧ (matchRecord p stamp s).profile = s.profile
      ∧ (matchRecord p stamp s).loader = s.loader ∧ (matchRecord p stamp s).lif = s.lif
      ∧ (matchRecord p stamp s).owner = s.owner ∧ (matchRecord p stamp s).slots = s.slots
      ∧ (matchRecord p stamp s).soft = s.soft ∧ (matchRecord p stamp s).inputs = s.inputs
      ∧ (matchRecord p stamp s).host = s.host ∧ (matchRecord p stamp s).patterns = s.patterns
      ∧ (matchRecord p stamp s).blink = s.blink ∧ (matchRecord p stamp s).port = s.port
      ∧ (matchRecord p stamp s).pins = s.pins ∧ (matchRecord p stamp s).freeIndex = s.freeIndex
      ∧ (matchRecord p stamp s).pending = s.pending := by
  unfold matchRecord
  (repeat' split) <;> simp

/-- `complete` touches only: patterns, journal, conds, chans. -/
@[simp] theorem complete_keeps (p : Fin 8) (stamp : Option (BitVec 16)) (s : State) :
    (complete p stamp s).station = s.station ∧ (complete p stamp s).cause = s.cause
      ∧ (complete p stamp s).stationCode = s.stationCode
      ∧ (complete p stamp s).addrCode = s.addrCode ∧ (complete p stamp s).profile = s.profile
      ∧ (complete p stamp s).loader = s.loader ∧ (complete p stamp s).lif = s.lif
      ∧ (complete p stamp s).owner = s.owner ∧ (complete p stamp s).slots = s.slots
      ∧ (complete p stamp s).soft = s.soft ∧ (complete p stamp s).inputs = s.inputs
      ∧ (complete p stamp s).host = s.host ∧ (complete p stamp s).blink = s.blink
      ∧ (complete p stamp s).port = s.port ∧ (complete p stamp s).pins = s.pins
      ∧ (complete p stamp s).freeIndex = s.freeIndex ∧ (complete p stamp s).pending = s.pending := by
  unfold complete
  simp

/-- `advance` touches only: patterns, journal, conds, chans. -/
@[simp] theorem advance_keeps (p : Fin 8) (stamp : Option (BitVec 16)) (s : State) :
    (advance p stamp s).station = s.station ∧ (advance p stamp s).cause = s.cause
      ∧ (advance p stamp s).stationCode = s.stationCode ∧ (advance p stamp s).addrCode = s.addrCode
      ∧ (advance p stamp s).profile = s.profile ∧ (advance p stamp s).loader = s.loader
      ∧ (advance p stamp s).lif = s.lif ∧ (advance p stamp s).owner = s.owner
      ∧ (advance p stamp s).slots = s.slots ∧ (advance p stamp s).soft = s.soft
      ∧ (advance p stamp s).inputs = s.inputs ∧ (advance p stamp s).host = s.host
      ∧ (advance p stamp s).blink = s.blink ∧ (advance p stamp s).port = s.port
      ∧ (advance p stamp s).pins = s.pins ∧ (advance p stamp s).freeIndex = s.freeIndex
      ∧ (advance p stamp s).pending = s.pending := by
  unfold advance
  (repeat' split) <;> simp

/-- `startHold` touches only: patterns. -/
@[simp] theorem startHold_keeps (p : Fin 8) (ms : Nat) (s : State) :
    (startHold p ms s).station = s.station ∧ (startHold p ms s).cause = s.cause
      ∧ (startHold p ms s).stationCode = s.stationCode ∧ (startHold p ms s).addrCode = s.addrCode
      ∧ (startHold p ms s).profile = s.profile ∧ (startHold p ms s).loader = s.loader
      ∧ (startHold p ms s).lif = s.lif ∧ (startHold p ms s).owner = s.owner
      ∧ (startHold p ms s).slots = s.slots ∧ (startHold p ms s).chans = s.chans
      ∧ (startHold p ms s).soft = s.soft ∧ (startHold p ms s).inputs = s.inputs
      ∧ (startHold p ms s).host = s.host ∧ (startHold p ms s).conds = s.conds
      ∧ (startHold p ms s).blink = s.blink ∧ (startHold p ms s).journal = s.journal
      ∧ (startHold p ms s).port = s.port ∧ (startHold p ms s).pins = s.pins
      ∧ (startHold p ms s).freeIndex = s.freeIndex ∧ (startHold p ms s).pending = s.pending := by
  unfold startHold
  simp

/-- `restartQuiet` touches only: patterns. -/
@[simp] theorem restartQuiet_keeps (p : Fin 8) (ms : Nat) (s : State) :
    (restartQuiet p ms s).station = s.station ∧ (restartQuiet p ms s).cause = s.cause
      ∧ (restartQuiet p ms s).stationCode = s.stationCode
      ∧ (restartQuiet p ms s).addrCode = s.addrCode ∧ (restartQuiet p ms s).profile = s.profile
      ∧ (restartQuiet p ms s).loader = s.loader ∧ (restartQuiet p ms s).lif = s.lif
      ∧ (restartQuiet p ms s).owner = s.owner ∧ (restartQuiet p ms s).slots = s.slots
      ∧ (restartQuiet p ms s).chans = s.chans ∧ (restartQuiet p ms s).soft = s.soft
      ∧ (restartQuiet p ms s).inputs = s.inputs ∧ (restartQuiet p ms s).host = s.host
      ∧ (restartQuiet p ms s).conds = s.conds ∧ (restartQuiet p ms s).blink = s.blink
      ∧ (restartQuiet p ms s).journal = s.journal ∧ (restartQuiet p ms s).port = s.port
      ∧ (restartQuiet p ms s).pins = s.pins ∧ (restartQuiet p ms s).freeIndex = s.freeIndex
      ∧ (restartQuiet p ms s).pending = s.pending := by
  unfold restartQuiet
  simp

/-- `retry` touches only: patterns. -/
@[simp] theorem retry_keeps (p : Fin 8) (t : Transition) (s : State) :
    (retry p t s).station = s.station ∧ (retry p t s).cause = s.cause
      ∧ (retry p t s).stationCode = s.stationCode ∧ (retry p t s).addrCode = s.addrCode
      ∧ (retry p t s).profile = s.profile ∧ (retry p t s).loader = s.loader
      ∧ (retry p t s).lif = s.lif ∧ (retry p t s).owner = s.owner ∧ (retry p t s).slots = s.slots
      ∧ (retry p t s).chans = s.chans ∧ (retry p t s).soft = s.soft
      ∧ (retry p t s).inputs = s.inputs ∧ (retry p t s).host = s.host
      ∧ (retry p t s).conds = s.conds ∧ (retry p t s).blink = s.blink
      ∧ (retry p t s).journal = s.journal ∧ (retry p t s).port = s.port
      ∧ (retry p t s).pins = s.pins ∧ (retry p t s).freeIndex = s.freeIndex
      ∧ (retry p t s).pending = s.pending := by
  unfold retry
  (repeat' split) <;> simp

/-- `patternTake` touches only: patterns, journal, conds, chans. -/
@[simp] theorem patternTake_keeps (p : Fin 8) (t : Transition) (s : State) :
    (patternTake p t s).station = s.station ∧ (patternTake p t s).cause = s.cause
      ∧ (patternTake p t s).stationCode = s.stationCode ∧ (patternTake p t s).addrCode = s.addrCode
      ∧ (patternTake p t s).profile = s.profile ∧ (patternTake p t s).loader = s.loader
      ∧ (patternTake p t s).lif = s.lif ∧ (patternTake p t s).owner = s.owner
      ∧ (patternTake p t s).slots = s.slots ∧ (patternTake p t s).soft = s.soft
      ∧ (patternTake p t s).inputs = s.inputs ∧ (patternTake p t s).host = s.host
      ∧ (patternTake p t s).blink = s.blink ∧ (patternTake p t s).port = s.port
      ∧ (patternTake p t s).pins = s.pins ∧ (patternTake p t s).freeIndex = s.freeIndex
      ∧ (patternTake p t s).pending = s.pending := by
  unfold patternTake
  dsimp only
  (repeat' split) <;> simp

/-- `patternsTake` touches only: patterns, journal, conds, chans. -/
@[simp] theorem patternsTake_keeps (t : Transition) (s : State) :
    (patternsTake t s).station = s.station ∧ (patternsTake t s).cause = s.cause
      ∧ (patternsTake t s).stationCode = s.stationCode ∧ (patternsTake t s).addrCode = s.addrCode
      ∧ (patternsTake t s).profile = s.profile ∧ (patternsTake t s).loader = s.loader
      ∧ (patternsTake t s).lif = s.lif ∧ (patternsTake t s).owner = s.owner
      ∧ (patternsTake t s).slots = s.slots ∧ (patternsTake t s).soft = s.soft
      ∧ (patternsTake t s).inputs = s.inputs ∧ (patternsTake t s).host = s.host
      ∧ (patternsTake t s).blink = s.blink ∧ (patternsTake t s).port = s.port
      ∧ (patternsTake t s).pins = s.pins ∧ (patternsTake t s).freeIndex = s.freeIndex
      ∧ (patternsTake t s).pending = s.pending := by
  unfold patternsTake
  generalize List.finRange 8 = l
  induction l generalizing s with
  | nil => simp
  | cons a l ih =>
    simp only [List.foldl_cons, ih]
    simp

/-- `armPatterns` touches only: patterns. -/
@[simp] theorem armPatterns_keeps (s : State) :
    (armPatterns s).station = s.station ∧ (armPatterns s).cause = s.cause
      ∧ (armPatterns s).stationCode = s.stationCode ∧ (armPatterns s).addrCode = s.addrCode
      ∧ (armPatterns s).profile = s.profile ∧ (armPatterns s).loader = s.loader
      ∧ (armPatterns s).lif = s.lif ∧ (armPatterns s).owner = s.owner
      ∧ (armPatterns s).slots = s.slots ∧ (armPatterns s).chans = s.chans
      ∧ (armPatterns s).soft = s.soft ∧ (armPatterns s).inputs = s.inputs
      ∧ (armPatterns s).host = s.host ∧ (armPatterns s).conds = s.conds
      ∧ (armPatterns s).blink = s.blink ∧ (armPatterns s).journal = s.journal
      ∧ (armPatterns s).port = s.port ∧ (armPatterns s).pins = s.pins
      ∧ (armPatterns s).freeIndex = s.freeIndex ∧ (armPatterns s).pending = s.pending := by
  unfold armPatterns
  generalize List.finRange 8 = l
  induction l generalizing s with
  | nil => simp
  | cons a l ih =>
    simp only [List.foldl_cons, ih]
    (repeat' split) <;> simp

/-- `windowExpires` touches only: patterns. -/
@[simp] theorem windowExpires_keeps (p : Fin 8) (s : State) :
    (windowExpires p s).station = s.station ∧ (windowExpires p s).cause = s.cause
      ∧ (windowExpires p s).stationCode = s.stationCode ∧ (windowExpires p s).addrCode = s.addrCode
      ∧ (windowExpires p s).profile = s.profile ∧ (windowExpires p s).loader = s.loader
      ∧ (windowExpires p s).lif = s.lif ∧ (windowExpires p s).owner = s.owner
      ∧ (windowExpires p s).slots = s.slots ∧ (windowExpires p s).chans = s.chans
      ∧ (windowExpires p s).soft = s.soft ∧ (windowExpires p s).inputs = s.inputs
      ∧ (windowExpires p s).host = s.host ∧ (windowExpires p s).conds = s.conds
      ∧ (windowExpires p s).blink = s.blink ∧ (windowExpires p s).journal = s.journal
      ∧ (windowExpires p s).port = s.port ∧ (windowExpires p s).pins = s.pins
      ∧ (windowExpires p s).freeIndex = s.freeIndex ∧ (windowExpires p s).pending = s.pending := by
  unfold windowExpires
  (repeat' split) <;> simp

/-- `holdExpires` touches only: patterns, journal, conds, chans. -/
@[simp] theorem holdExpires_keeps (p : Fin 8) (s : State) :
    (holdExpires p s).station = s.station ∧ (holdExpires p s).cause = s.cause
      ∧ (holdExpires p s).stationCode = s.stationCode ∧ (holdExpires p s).addrCode = s.addrCode
      ∧ (holdExpires p s).profile = s.profile ∧ (holdExpires p s).loader = s.loader
      ∧ (holdExpires p s).lif = s.lif ∧ (holdExpires p s).owner = s.owner
      ∧ (holdExpires p s).slots = s.slots ∧ (holdExpires p s).soft = s.soft
      ∧ (holdExpires p s).inputs = s.inputs ∧ (holdExpires p s).host = s.host
      ∧ (holdExpires p s).blink = s.blink ∧ (holdExpires p s).port = s.port
      ∧ (holdExpires p s).pins = s.pins ∧ (holdExpires p s).freeIndex = s.freeIndex
      ∧ (holdExpires p s).pending = s.pending := by
  unfold holdExpires
  (repeat' split) <;> simp

/-- `quietExpires` touches only: patterns, journal, conds, chans. -/
@[simp] theorem quietExpires_keeps (p : Fin 8) (s : State) :
    (quietExpires p s).station = s.station ∧ (quietExpires p s).cause = s.cause
      ∧ (quietExpires p s).stationCode = s.stationCode ∧ (quietExpires p s).addrCode = s.addrCode
      ∧ (quietExpires p s).profile = s.profile ∧ (quietExpires p s).loader = s.loader
      ∧ (quietExpires p s).lif = s.lif ∧ (quietExpires p s).owner = s.owner
      ∧ (quietExpires p s).slots = s.slots ∧ (quietExpires p s).soft = s.soft
      ∧ (quietExpires p s).inputs = s.inputs ∧ (quietExpires p s).host = s.host
      ∧ (quietExpires p s).blink = s.blink ∧ (quietExpires p s).port = s.port
      ∧ (quietExpires p s).pins = s.pins ∧ (quietExpires p s).freeIndex = s.freeIndex
      ∧ (quietExpires p s).pending = s.pending := by
  unfold quietExpires
  (repeat' split) <;> simp

/-- `ackPattern` touches only: patterns, chans. -/
@[simp] theorem ackPattern_keeps (p : Fin 8) (s : State) :
    (ackPattern p s).station = s.station ∧ (ackPattern p s).cause = s.cause
      ∧ (ackPattern p s).stationCode = s.stationCode ∧ (ackPattern p s).addrCode = s.addrCode
      ∧ (ackPattern p s).profile = s.profile ∧ (ackPattern p s).loader = s.loader
      ∧ (ackPattern p s).lif = s.lif ∧ (ackPattern p s).owner = s.owner
      ∧ (ackPattern p s).slots = s.slots ∧ (ackPattern p s).soft = s.soft
      ∧ (ackPattern p s).inputs = s.inputs ∧ (ackPattern p s).host = s.host
      ∧ (ackPattern p s).conds = s.conds ∧ (ackPattern p s).blink = s.blink
      ∧ (ackPattern p s).journal = s.journal ∧ (ackPattern p s).port = s.port
      ∧ (ackPattern p s).pins = s.pins ∧ (ackPattern p s).freeIndex = s.freeIndex
      ∧ (ackPattern p s).pending = s.pending := by
  unfold ackPattern
  dsimp only
  (repeat' split) <;> simp

/-- `ackPatternsMask` touches only: patterns, chans. -/
@[simp] theorem ackPatternsMask_keeps (mask : Byte) (s : State) :
    (ackPatternsMask mask s).station = s.station ∧ (ackPatternsMask mask s).cause = s.cause
      ∧ (ackPatternsMask mask s).stationCode = s.stationCode
      ∧ (ackPatternsMask mask s).addrCode = s.addrCode
      ∧ (ackPatternsMask mask s).profile = s.profile ∧ (ackPatternsMask mask s).loader = s.loader
      ∧ (ackPatternsMask mask s).lif = s.lif ∧ (ackPatternsMask mask s).owner = s.owner
      ∧ (ackPatternsMask mask s).slots = s.slots ∧ (ackPatternsMask mask s).soft = s.soft
      ∧ (ackPatternsMask mask s).inputs = s.inputs ∧ (ackPatternsMask mask s).host = s.host
      ∧ (ackPatternsMask mask s).conds = s.conds ∧ (ackPatternsMask mask s).blink = s.blink
      ∧ (ackPatternsMask mask s).journal = s.journal ∧ (ackPatternsMask mask s).port = s.port
      ∧ (ackPatternsMask mask s).pins = s.pins ∧ (ackPatternsMask mask s).freeIndex = s.freeIndex
      ∧ (ackPatternsMask mask s).pending = s.pending := by
  unfold ackPatternsMask
  generalize List.finRange 8 = l
  induction l generalizing s with
  | nil => simp
  | cons a l ih =>
    simp only [List.foldl_cons, ih]
    (repeat' split) <;> simp

end Sys2Proof.Machine
end

