-- ==== Sys2Proof/Laws/Slots.lean ====
section
/-! SUPPORT. What each operation of the slot table leaves alone, and what it does to one entry. -/

namespace Sys2Proof.Machine

open Sys2Proof

/-- `latchStep` touches only: slots. -/
@[simp] theorem latchStep_keeps (t : Transition) (s : State) :
    (latchStep t s).station = s.station ∧ (latchStep t s).cause = s.cause
      ∧ (latchStep t s).stationCode = s.stationCode ∧ (latchStep t s).addrCode = s.addrCode
      ∧ (latchStep t s).profile = s.profile ∧ (latchStep t s).loader = s.loader
      ∧ (latchStep t s).lif = s.lif ∧ (latchStep t s).owner = s.owner
      ∧ (latchStep t s).chans = s.chans ∧ (latchStep t s).soft = s.soft
      ∧ (latchStep t s).inputs = s.inputs ∧ (latchStep t s).host = s.host
      ∧ (latchStep t s).patterns = s.patterns ∧ (latchStep t s).conds = s.conds
      ∧ (latchStep t s).blink = s.blink ∧ (latchStep t s).journal = s.journal
      ∧ (latchStep t s).port = s.port ∧ (latchStep t s).pins = s.pins
      ∧ (latchStep t s).freeIndex = s.freeIndex ∧ (latchStep t s).pending = s.pending := by
  unfold latchStep
  (repeat' split) <;> simp

/-- `journalStep` touches only: journal, conds, chans. -/
@[simp] theorem journalStep_keeps (t : Transition) (s : State) :
    (journalStep t s).station = s.station ∧ (journalStep t s).cause = s.cause
      ∧ (journalStep t s).stationCode = s.stationCode ∧ (journalStep t s).addrCode = s.addrCode
      ∧ (journalStep t s).profile = s.profile ∧ (journalStep t s).loader = s.loader
      ∧ (journalStep t s).lif = s.lif ∧ (journalStep t s).owner = s.owner
      ∧ (journalStep t s).slots = s.slots ∧ (journalStep t s).soft = s.soft
      ∧ (journalStep t s).inputs = s.inputs ∧ (journalStep t s).host = s.host
      ∧ (journalStep t s).patterns = s.patterns ∧ (journalStep t s).blink = s.blink
      ∧ (journalStep t s).port = s.port ∧ (journalStep t s).pins = s.pins
      ∧ (journalStep t s).freeIndex = s.freeIndex ∧ (journalStep t s).pending = s.pending := by
  unfold journalStep
  (repeat' split) <;> simp

/-- `deliver` touches only: slots, patterns, journal, conds, chans. -/
@[simp] theorem deliver_keeps (t : Transition) (s : State) :
    (deliver t s).station = s.station ∧ (deliver t s).cause = s.cause
      ∧ (deliver t s).stationCode = s.stationCode ∧ (deliver t s).addrCode = s.addrCode
      ∧ (deliver t s).profile = s.profile ∧ (deliver t s).loader = s.loader
      ∧ (deliver t s).lif = s.lif ∧ (deliver t s).owner = s.owner ∧ (deliver t s).soft = s.soft
      ∧ (deliver t s).inputs = s.inputs ∧ (deliver t s).host = s.host
      ∧ (deliver t s).blink = s.blink ∧ (deliver t s).port = s.port ∧ (deliver t s).pins = s.pins
      ∧ (deliver t s).freeIndex = s.freeIndex ∧ (deliver t s).pending = s.pending := by
  unfold deliver
  simp

/-- `applyFrame` touches only: slots, conds, chans. -/
@[simp] theorem applyFrame_keeps (s : State) :
    (applyFrame s).station = s.station ∧ (applyFrame s).cause = s.cause
      ∧ (applyFrame s).stationCode = s.stationCode ∧ (applyFrame s).addrCode = s.addrCode
      ∧ (applyFrame s).profile = s.profile ∧ (applyFrame s).loader = s.loader
      ∧ (applyFrame s).lif = s.lif ∧ (applyFrame s).owner = s.owner ∧ (applyFrame s).soft = s.soft
      ∧ (applyFrame s).inputs = s.inputs ∧ (applyFrame s).host = s.host
      ∧ (applyFrame s).patterns = s.patterns ∧ (applyFrame s).blink = s.blink
      ∧ (applyFrame s).journal = s.journal ∧ (applyFrame s).port = s.port
      ∧ (applyFrame s).pins = s.pins ∧ (applyFrame s).freeIndex = s.freeIndex
      ∧ (applyFrame s).pending = s.pending := by
  unfold applyFrame
  dsimp only
  (repeat' split) <;> simp

/-- `learnFrame` touches only: slots. -/
@[simp] theorem learnFrame_keeps (s : State) :
    (learnFrame s).station = s.station ∧ (learnFrame s).cause = s.cause
      ∧ (learnFrame s).stationCode = s.stationCode ∧ (learnFrame s).addrCode = s.addrCode
      ∧ (learnFrame s).profile = s.profile ∧ (learnFrame s).loader = s.loader
      ∧ (learnFrame s).lif = s.lif ∧ (learnFrame s).owner = s.owner ∧ (learnFrame s).chans = s.chans
      ∧ (learnFrame s).soft = s.soft ∧ (learnFrame s).inputs = s.inputs
      ∧ (learnFrame s).host = s.host ∧ (learnFrame s).patterns = s.patterns
      ∧ (learnFrame s).conds = s.conds ∧ (learnFrame s).blink = s.blink
      ∧ (learnFrame s).journal = s.journal ∧ (learnFrame s).port = s.port
      ∧ (learnFrame s).pins = s.pins ∧ (learnFrame s).freeIndex = s.freeIndex
      ∧ (learnFrame s).pending = s.pending := by
  unfold learnFrame
  simp

/-- `seedLatches` touches only: slots. -/
@[simp] theorem seedLatches_keeps (s : State) :
    (seedLatches s).station = s.station ∧ (seedLatches s).cause = s.cause
      ∧ (seedLatches s).stationCode = s.stationCode ∧ (seedLatches s).addrCode = s.addrCode
      ∧ (seedLatches s).profile = s.profile ∧ (seedLatches s).loader = s.loader
      ∧ (seedLatches s).lif = s.lif ∧ (seedLatches s).owner = s.owner
      ∧ (seedLatches s).chans = s.chans ∧ (seedLatches s).soft = s.soft
      ∧ (seedLatches s).inputs = s.inputs ∧ (seedLatches s).host = s.host
      ∧ (seedLatches s).patterns = s.patterns ∧ (seedLatches s).conds = s.conds
      ∧ (seedLatches s).blink = s.blink ∧ (seedLatches s).journal = s.journal
      ∧ (seedLatches s).port = s.port ∧ (seedLatches s).pins = s.pins
      ∧ (seedLatches s).freeIndex = s.freeIndex ∧ (seedLatches s).pending = s.pending := by
  unfold seedLatches
  simp

/-- `ackSlotRange` touches only: slots. -/
@[simp] theorem ackSlotRange_keeps (first count : Nat) (s : State) :
    (ackSlotRange first count s).station = s.station ∧ (ackSlotRange first count s).cause = s.cause
      ∧ (ackSlotRange first count s).stationCode = s.stationCode
      ∧ (ackSlotRange first count s).addrCode = s.addrCode
      ∧ (ackSlotRange first count s).profile = s.profile
      ∧ (ackSlotRange first count s).loader = s.loader ∧ (ackSlotRange first count s).lif = s.lif
      ∧ (ackSlotRange first count s).owner = s.owner ∧ (ackSlotRange first count s).chans = s.chans
      ∧ (ackSlotRange first count s).soft = s.soft ∧ (ackSlotRange first count s).inputs = s.inputs
      ∧ (ackSlotRange first count s).host = s.host
      ∧ (ackSlotRange first count s).patterns = s.patterns
      ∧ (ackSlotRange first count s).conds = s.conds ∧ (ackSlotRange first count s).blink = s.blink
      ∧ (ackSlotRange first count s).journal = s.journal
      ∧ (ackSlotRange first count s).port = s.port ∧ (ackSlotRange first count s).pins = s.pins
      ∧ (ackSlotRange first count s).freeIndex = s.freeIndex
      ∧ (ackSlotRange first count s).pending = s.pending := by
  unfold ackSlotRange
  simp

end Sys2Proof.Machine
end

