-- ==== Sys2Proof/Laws/Line.lean ====
section
/-! SUPPORT. What each operation of the line interface leaves alone. -/

namespace Sys2Proof.Machine

open Sys2Proof

/-- `seeLine` touches only: pins. -/
@[simp] theorem seeLine_keeps (x : Sample) (s : State) :
    (seeLine x s).station = s.station ∧ (seeLine x s).cause = s.cause
      ∧ (seeLine x s).stationCode = s.stationCode ∧ (seeLine x s).addrCode = s.addrCode
      ∧ (seeLine x s).profile = s.profile ∧ (seeLine x s).loader = s.loader
      ∧ (seeLine x s).lif = s.lif ∧ (seeLine x s).owner = s.owner ∧ (seeLine x s).slots = s.slots
      ∧ (seeLine x s).chans = s.chans ∧ (seeLine x s).soft = s.soft
      ∧ (seeLine x s).inputs = s.inputs ∧ (seeLine x s).host = s.host
      ∧ (seeLine x s).patterns = s.patterns ∧ (seeLine x s).conds = s.conds
      ∧ (seeLine x s).blink = s.blink ∧ (seeLine x s).journal = s.journal
      ∧ (seeLine x s).port = s.port ∧ (seeLine x s).freeIndex = s.freeIndex
      ∧ (seeLine x s).pending = s.pending := by
  unfold seeLine
  simp

/-- `lineFalls` touches only: pins, lif. -/
@[simp] theorem lineFalls_keeps (s : State) :
    (lineFalls s).station = s.station ∧ (lineFalls s).cause = s.cause
      ∧ (lineFalls s).stationCode = s.stationCode ∧ (lineFalls s).addrCode = s.addrCode
      ∧ (lineFalls s).profile = s.profile ∧ (lineFalls s).loader = s.loader
      ∧ (lineFalls s).owner = s.owner ∧ (lineFalls s).slots = s.slots
      ∧ (lineFalls s).chans = s.chans ∧ (lineFalls s).soft = s.soft
      ∧ (lineFalls s).inputs = s.inputs ∧ (lineFalls s).host = s.host
      ∧ (lineFalls s).patterns = s.patterns ∧ (lineFalls s).conds = s.conds
      ∧ (lineFalls s).blink = s.blink ∧ (lineFalls s).journal = s.journal
      ∧ (lineFalls s).port = s.port ∧ (lineFalls s).freeIndex = s.freeIndex
      ∧ (lineFalls s).pending = s.pending := by
  unfold lineFalls
  dsimp only
  (repeat' split) <;> simp

/-- `takeSnapshots` touches only: chans. -/
@[simp] theorem takeSnapshots_keeps (s : State) :
    (takeSnapshots s).station = s.station ∧ (takeSnapshots s).cause = s.cause
      ∧ (takeSnapshots s).stationCode = s.stationCode ∧ (takeSnapshots s).addrCode = s.addrCode
      ∧ (takeSnapshots s).profile = s.profile ∧ (takeSnapshots s).loader = s.loader
      ∧ (takeSnapshots s).lif = s.lif ∧ (takeSnapshots s).owner = s.owner
      ∧ (takeSnapshots s).slots = s.slots ∧ (takeSnapshots s).soft = s.soft
      ∧ (takeSnapshots s).inputs = s.inputs ∧ (takeSnapshots s).host = s.host
      ∧ (takeSnapshots s).patterns = s.patterns ∧ (takeSnapshots s).conds = s.conds
      ∧ (takeSnapshots s).blink = s.blink ∧ (takeSnapshots s).journal = s.journal
      ∧ (takeSnapshots s).port = s.port ∧ (takeSnapshots s).pins = s.pins
      ∧ (takeSnapshots s).freeIndex = s.freeIndex ∧ (takeSnapshots s).pending = s.pending := by
  unfold takeSnapshots
  simp

/-- `startCensusWait` touches only: owner. -/
@[simp] theorem startCensusWait_keeps (s : State) :
    (startCensusWait s).station = s.station ∧ (startCensusWait s).cause = s.cause
      ∧ (startCensusWait s).stationCode = s.stationCode ∧ (startCensusWait s).addrCode = s.addrCode
      ∧ (startCensusWait s).profile = s.profile ∧ (startCensusWait s).loader = s.loader
      ∧ (startCensusWait s).lif = s.lif ∧ (startCensusWait s).slots = s.slots
      ∧ (startCensusWait s).chans = s.chans ∧ (startCensusWait s).soft = s.soft
      ∧ (startCensusWait s).inputs = s.inputs ∧ (startCensusWait s).host = s.host
      ∧ (startCensusWait s).patterns = s.patterns ∧ (startCensusWait s).conds = s.conds
      ∧ (startCensusWait s).blink = s.blink ∧ (startCensusWait s).journal = s.journal
      ∧ (startCensusWait s).port = s.port ∧ (startCensusWait s).pins = s.pins
      ∧ (startCensusWait s).freeIndex = s.freeIndex ∧ (startCensusWait s).pending = s.pending := by
  unfold startCensusWait
  simp

/-- `frameBegins` touches only: chans, owner. -/
@[simp] theorem frameBegins_keeps (s : State) :
    (frameBegins s).station = s.station ∧ (frameBegins s).cause = s.cause
      ∧ (frameBegins s).stationCode = s.stationCode ∧ (frameBegins s).addrCode = s.addrCode
      ∧ (frameBegins s).profile = s.profile ∧ (frameBegins s).loader = s.loader
      ∧ (frameBegins s).lif = s.lif ∧ (frameBegins s).slots = s.slots
      ∧ (frameBegins s).soft = s.soft ∧ (frameBegins s).inputs = s.inputs
      ∧ (frameBegins s).host = s.host ∧ (frameBegins s).patterns = s.patterns
      ∧ (frameBegins s).conds = s.conds ∧ (frameBegins s).blink = s.blink
      ∧ (frameBegins s).journal = s.journal ∧ (frameBegins s).port = s.port
      ∧ (frameBegins s).pins = s.pins ∧ (frameBegins s).freeIndex = s.freeIndex
      ∧ (frameBegins s).pending = s.pending := by
  unfold frameBegins
  (repeat' split) <;> simp

/-- `startPatternEnds` touches only: pins, lif, chans, owner. -/
@[simp] theorem startPatternEnds_keeps (run : Nat) (cell : Sample) (s : State) :
    (startPatternEnds run cell s).station = s.station
      ∧ (startPatternEnds run cell s).cause = s.cause
      ∧ (startPatternEnds run cell s).stationCode = s.stationCode
      ∧ (startPatternEnds run cell s).addrCode = s.addrCode
      ∧ (startPatternEnds run cell s).profile = s.profile
      ∧ (startPatternEnds run cell s).loader = s.loader
      ∧ (startPatternEnds run cell s).slots = s.slots ∧ (startPatternEnds run cell s).soft = s.soft
      ∧ (startPatternEnds run cell s).inputs = s.inputs
      ∧ (startPatternEnds run cell s).host = s.host
      ∧ (startPatternEnds run cell s).patterns = s.patterns
      ∧ (startPatternEnds run cell s).conds = s.conds
      ∧ (startPatternEnds run cell s).blink = s.blink
      ∧ (startPatternEnds run cell s).journal = s.journal
      ∧ (startPatternEnds run cell s).port = s.port
      ∧ (startPatternEnds run cell s).freeIndex = s.freeIndex
      ∧ (startPatternEnds run cell s).pending = s.pending := by
  unfold startPatternEnds
  dsimp only
  (repeat' split) <;> simp

/-- `startFrame` touches only: lif. -/
@[simp] theorem startFrame_keeps (s : State) :
    (startFrame s).station = s.station ∧ (startFrame s).cause = s.cause
      ∧ (startFrame s).stationCode = s.stationCode ∧ (startFrame s).addrCode = s.addrCode
      ∧ (startFrame s).profile = s.profile ∧ (startFrame s).loader = s.loader
      ∧ (startFrame s).owner = s.owner ∧ (startFrame s).slots = s.slots
      ∧ (startFrame s).chans = s.chans ∧ (startFrame s).soft = s.soft
      ∧ (startFrame s).inputs = s.inputs ∧ (startFrame s).host = s.host
      ∧ (startFrame s).patterns = s.patterns ∧ (startFrame s).conds = s.conds
      ∧ (startFrame s).blink = s.blink ∧ (startFrame s).journal = s.journal
      ∧ (startFrame s).port = s.port ∧ (startFrame s).pins = s.pins
      ∧ (startFrame s).freeIndex = s.freeIndex ∧ (startFrame s).pending = s.pending := by
  unfold startFrame
  (repeat' split) <;> simp

/-- `sampleCell` touches only: pins, lif. -/
@[simp] theorem sampleCell_keeps (x : Sample) (s : State) :
    (sampleCell x s).station = s.station ∧ (sampleCell x s).cause = s.cause
      ∧ (sampleCell x s).stationCode = s.stationCode ∧ (sampleCell x s).addrCode = s.addrCode
      ∧ (sampleCell x s).profile = s.profile ∧ (sampleCell x s).loader = s.loader
      ∧ (sampleCell x s).owner = s.owner ∧ (sampleCell x s).slots = s.slots
      ∧ (sampleCell x s).chans = s.chans ∧ (sampleCell x s).soft = s.soft
      ∧ (sampleCell x s).inputs = s.inputs ∧ (sampleCell x s).host = s.host
      ∧ (sampleCell x s).patterns = s.patterns ∧ (sampleCell x s).conds = s.conds
      ∧ (sampleCell x s).blink = s.blink ∧ (sampleCell x s).journal = s.journal
      ∧ (sampleCell x s).port = s.port ∧ (sampleCell x s).freeIndex = s.freeIndex
      ∧ (sampleCell x s).pending = s.pending := by
  unfold sampleCell
  dsimp only
  (repeat' split) <;> simp

/-- `gapCompletes` touches only: lif. -/
@[simp] theorem gapCompletes_keeps (s : State) :
    (gapCompletes s).station = s.station ∧ (gapCompletes s).cause = s.cause
      ∧ (gapCompletes s).stationCode = s.stationCode ∧ (gapCompletes s).addrCode = s.addrCode
      ∧ (gapCompletes s).profile = s.profile ∧ (gapCompletes s).loader = s.loader
      ∧ (gapCompletes s).owner = s.owner ∧ (gapCompletes s).slots = s.slots
      ∧ (gapCompletes s).chans = s.chans ∧ (gapCompletes s).soft = s.soft
      ∧ (gapCompletes s).inputs = s.inputs ∧ (gapCompletes s).host = s.host
      ∧ (gapCompletes s).patterns = s.patterns ∧ (gapCompletes s).conds = s.conds
      ∧ (gapCompletes s).blink = s.blink ∧ (gapCompletes s).journal = s.journal
      ∧ (gapCompletes s).port = s.port ∧ (gapCompletes s).pins = s.pins
      ∧ (gapCompletes s).freeIndex = s.freeIndex ∧ (gapCompletes s).pending = s.pending := by
  unfold gapCompletes
  (repeat' split) <;> simp

/-- `refreshExpires` touches only: lif. -/
@[simp] theorem refreshExpires_keeps (s : State) :
    (refreshExpires s).station = s.station ∧ (refreshExpires s).cause = s.cause
      ∧ (refreshExpires s).stationCode = s.stationCode ∧ (refreshExpires s).addrCode = s.addrCode
      ∧ (refreshExpires s).profile = s.profile ∧ (refreshExpires s).loader = s.loader
      ∧ (refreshExpires s).owner = s.owner ∧ (refreshExpires s).slots = s.slots
      ∧ (refreshExpires s).chans = s.chans ∧ (refreshExpires s).soft = s.soft
      ∧ (refreshExpires s).inputs = s.inputs ∧ (refreshExpires s).host = s.host
      ∧ (refreshExpires s).patterns = s.patterns ∧ (refreshExpires s).conds = s.conds
      ∧ (refreshExpires s).blink = s.blink ∧ (refreshExpires s).journal = s.journal
      ∧ (refreshExpires s).port = s.port ∧ (refreshExpires s).pins = s.pins
      ∧ (refreshExpires s).freeIndex = s.freeIndex ∧ (refreshExpires s).pending = s.pending := by
  unfold refreshExpires
  (repeat' split) <;> simp

/-- `censusWaitExpires` touches only: lif, owner. -/
@[simp] theorem censusWaitExpires_keeps (s : State) :
    (censusWaitExpires s).station = s.station ∧ (censusWaitExpires s).cause = s.cause
      ∧ (censusWaitExpires s).stationCode = s.stationCode
      ∧ (censusWaitExpires s).addrCode = s.addrCode ∧ (censusWaitExpires s).profile = s.profile
      ∧ (censusWaitExpires s).loader = s.loader ∧ (censusWaitExpires s).slots = s.slots
      ∧ (censusWaitExpires s).chans = s.chans ∧ (censusWaitExpires s).soft = s.soft
      ∧ (censusWaitExpires s).inputs = s.inputs ∧ (censusWaitExpires s).host = s.host
      ∧ (censusWaitExpires s).patterns = s.patterns ∧ (censusWaitExpires s).conds = s.conds
      ∧ (censusWaitExpires s).blink = s.blink ∧ (censusWaitExpires s).journal = s.journal
      ∧ (censusWaitExpires s).port = s.port ∧ (censusWaitExpires s).pins = s.pins
      ∧ (censusWaitExpires s).freeIndex = s.freeIndex ∧ (censusWaitExpires s).pending = s.pending := by
  unfold censusWaitExpires
  (repeat' split) <;> simp

/-- `backoffExpires` touches only: lif. -/
@[simp] theorem backoffExpires_keeps (s : State) :
    (backoffExpires s).station = s.station ∧ (backoffExpires s).cause = s.cause
      ∧ (backoffExpires s).stationCode = s.stationCode ∧ (backoffExpires s).addrCode = s.addrCode
      ∧ (backoffExpires s).profile = s.profile ∧ (backoffExpires s).loader = s.loader
      ∧ (backoffExpires s).owner = s.owner ∧ (backoffExpires s).slots = s.slots
      ∧ (backoffExpires s).chans = s.chans ∧ (backoffExpires s).soft = s.soft
      ∧ (backoffExpires s).inputs = s.inputs ∧ (backoffExpires s).host = s.host
      ∧ (backoffExpires s).patterns = s.patterns ∧ (backoffExpires s).conds = s.conds
      ∧ (backoffExpires s).blink = s.blink ∧ (backoffExpires s).journal = s.journal
      ∧ (backoffExpires s).port = s.port ∧ (backoffExpires s).pins = s.pins
      ∧ (backoffExpires s).freeIndex = s.freeIndex ∧ (backoffExpires s).pending = s.pending := by
  unfold backoffExpires
  (repeat' split) <;> simp

/-- `clearInFlight` touches only: chans. -/
@[simp] theorem clearInFlight_keeps (s : State) :
    (clearInFlight s).station = s.station ∧ (clearInFlight s).cause = s.cause
      ∧ (clearInFlight s).stationCode = s.stationCode ∧ (clearInFlight s).addrCode = s.addrCode
      ∧ (clearInFlight s).profile = s.profile ∧ (clearInFlight s).loader = s.loader
      ∧ (clearInFlight s).lif = s.lif ∧ (clearInFlight s).owner = s.owner
      ∧ (clearInFlight s).slots = s.slots ∧ (clearInFlight s).soft = s.soft
      ∧ (clearInFlight s).inputs = s.inputs ∧ (clearInFlight s).host = s.host
      ∧ (clearInFlight s).patterns = s.patterns ∧ (clearInFlight s).conds = s.conds
      ∧ (clearInFlight s).blink = s.blink ∧ (clearInFlight s).journal = s.journal
      ∧ (clearInFlight s).port = s.port ∧ (clearInFlight s).pins = s.pins
      ∧ (clearInFlight s).freeIndex = s.freeIndex ∧ (clearInFlight s).pending = s.pending := by
  unfold clearInFlight
  simp

/-- `withdrawClaims` touches only: chans, slots. -/
@[simp] theorem withdrawClaims_keeps (s : State) :
    (withdrawClaims s).station = s.station ∧ (withdrawClaims s).cause = s.cause
      ∧ (withdrawClaims s).stationCode = s.stationCode ∧ (withdrawClaims s).addrCode = s.addrCode
      ∧ (withdrawClaims s).profile = s.profile ∧ (withdrawClaims s).loader = s.loader
      ∧ (withdrawClaims s).lif = s.lif ∧ (withdrawClaims s).owner = s.owner
      ∧ (withdrawClaims s).soft = s.soft ∧ (withdrawClaims s).inputs = s.inputs
      ∧ (withdrawClaims s).host = s.host ∧ (withdrawClaims s).patterns = s.patterns
      ∧ (withdrawClaims s).conds = s.conds ∧ (withdrawClaims s).blink = s.blink
      ∧ (withdrawClaims s).journal = s.journal ∧ (withdrawClaims s).port = s.port
      ∧ (withdrawClaims s).pins = s.pins ∧ (withdrawClaims s).freeIndex = s.freeIndex
      ∧ (withdrawClaims s).pending = s.pending := by
  unfold withdrawClaims
  simp

/-- `reportContest` touches only: journal, conds, chans. -/
@[simp] theorem reportContest_keeps (slots : List (Fin 48)) (s : State) :
    (reportContest slots s).station = s.station ∧ (reportContest slots s).cause = s.cause
      ∧ (reportContest slots s).stationCode = s.stationCode
      ∧ (reportContest slots s).addrCode = s.addrCode ∧ (reportContest slots s).profile = s.profile
      ∧ (reportContest slots s).loader = s.loader ∧ (reportContest slots s).lif = s.lif
      ∧ (reportContest slots s).owner = s.owner ∧ (reportContest slots s).slots = s.slots
      ∧ (reportContest slots s).soft = s.soft ∧ (reportContest slots s).inputs = s.inputs
      ∧ (reportContest slots s).host = s.host ∧ (reportContest slots s).patterns = s.patterns
      ∧ (reportContest slots s).blink = s.blink ∧ (reportContest slots s).port = s.port
      ∧ (reportContest slots s).pins = s.pins ∧ (reportContest slots s).freeIndex = s.freeIndex
      ∧ (reportContest slots s).pending = s.pending := by
  unfold reportContest
  induction slots generalizing s with
  | nil => simp
  | cons a l ih =>
    simp only [List.foldl_cons, ih]
    simp

/-- `reportBackoff` touches only: journal, conds, chans. -/
@[simp] theorem reportBackoff_keeps (s : State) :
    (reportBackoff s).station = s.station ∧ (reportBackoff s).cause = s.cause
      ∧ (reportBackoff s).stationCode = s.stationCode ∧ (reportBackoff s).addrCode = s.addrCode
      ∧ (reportBackoff s).profile = s.profile ∧ (reportBackoff s).loader = s.loader
      ∧ (reportBackoff s).lif = s.lif ∧ (reportBackoff s).owner = s.owner
      ∧ (reportBackoff s).slots = s.slots ∧ (reportBackoff s).soft = s.soft
      ∧ (reportBackoff s).inputs = s.inputs ∧ (reportBackoff s).host = s.host
      ∧ (reportBackoff s).patterns = s.patterns ∧ (reportBackoff s).blink = s.blink
      ∧ (reportBackoff s).port = s.port ∧ (reportBackoff s).pins = s.pins
      ∧ (reportBackoff s).freeIndex = s.freeIndex ∧ (reportBackoff s).pending = s.pending := by
  unfold reportBackoff
  simp

/-- `reportStuck` touches only: journal, conds, chans. -/
@[simp] theorem reportStuck_keeps (s : State) :
    (reportStuck s).station = s.station ∧ (reportStuck s).cause = s.cause
      ∧ (reportStuck s).stationCode = s.stationCode ∧ (reportStuck s).addrCode = s.addrCode
      ∧ (reportStuck s).profile = s.profile ∧ (reportStuck s).loader = s.loader
      ∧ (reportStuck s).lif = s.lif ∧ (reportStuck s).owner = s.owner
      ∧ (reportStuck s).slots = s.slots ∧ (reportStuck s).soft = s.soft
      ∧ (reportStuck s).inputs = s.inputs ∧ (reportStuck s).host = s.host
      ∧ (reportStuck s).patterns = s.patterns ∧ (reportStuck s).blink = s.blink
      ∧ (reportStuck s).port = s.port ∧ (reportStuck s).pins = s.pins
      ∧ (reportStuck s).freeIndex = s.freeIndex ∧ (reportStuck s).pending = s.pending := by
  unfold reportStuck
  simp

/-- `stuckExpires` touches only: lif, slots, freeIndex, journal, conds, chans. -/
@[simp] theorem stuckExpires_keeps (s : State) :
    (stuckExpires s).station = s.station ∧ (stuckExpires s).cause = s.cause
      ∧ (stuckExpires s).stationCode = s.stationCode ∧ (stuckExpires s).addrCode = s.addrCode
      ∧ (stuckExpires s).profile = s.profile ∧ (stuckExpires s).loader = s.loader
      ∧ (stuckExpires s).owner = s.owner ∧ (stuckExpires s).soft = s.soft
      ∧ (stuckExpires s).inputs = s.inputs ∧ (stuckExpires s).host = s.host
      ∧ (stuckExpires s).patterns = s.patterns ∧ (stuckExpires s).blink = s.blink
      ∧ (stuckExpires s).port = s.port ∧ (stuckExpires s).pins = s.pins
      ∧ (stuckExpires s).pending = s.pending := by
  unfold stuckExpires eitherOrder
  dsimp only
  (repeat' split) <;> simp

/-- `recoveryExpires` touches only: lif, journal, conds, chans. -/
@[simp] theorem recoveryExpires_keeps (s : State) :
    (recoveryExpires s).station = s.station ∧ (recoveryExpires s).cause = s.cause
      ∧ (recoveryExpires s).stationCode = s.stationCode ∧ (recoveryExpires s).addrCode = s.addrCode
      ∧ (recoveryExpires s).profile = s.profile ∧ (recoveryExpires s).loader = s.loader
      ∧ (recoveryExpires s).owner = s.owner ∧ (recoveryExpires s).slots = s.slots
      ∧ (recoveryExpires s).soft = s.soft ∧ (recoveryExpires s).inputs = s.inputs
      ∧ (recoveryExpires s).host = s.host ∧ (recoveryExpires s).patterns = s.patterns
      ∧ (recoveryExpires s).blink = s.blink ∧ (recoveryExpires s).port = s.port
      ∧ (recoveryExpires s).pins = s.pins ∧ (recoveryExpires s).freeIndex = s.freeIndex
      ∧ (recoveryExpires s).pending = s.pending := by
  unfold recoveryExpires
  (repeat' split) <;> simp

/-- `blinkReaches` touches only: blink. -/
@[simp] theorem blinkReaches_keeps (phase : Fin 2000) (s : State) :
    (blinkReaches phase s).station = s.station ∧ (blinkReaches phase s).cause = s.cause
      ∧ (blinkReaches phase s).stationCode = s.stationCode
      ∧ (blinkReaches phase s).addrCode = s.addrCode ∧ (blinkReaches phase s).profile = s.profile
      ∧ (blinkReaches phase s).loader = s.loader ∧ (blinkReaches phase s).lif = s.lif
      ∧ (blinkReaches phase s).owner = s.owner ∧ (blinkReaches phase s).slots = s.slots
      ∧ (blinkReaches phase s).chans = s.chans ∧ (blinkReaches phase s).soft = s.soft
      ∧ (blinkReaches phase s).inputs = s.inputs ∧ (blinkReaches phase s).host = s.host
      ∧ (blinkReaches phase s).patterns = s.patterns ∧ (blinkReaches phase s).conds = s.conds
      ∧ (blinkReaches phase s).journal = s.journal ∧ (blinkReaches phase s).port = s.port
      ∧ (blinkReaches phase s).pins = s.pins ∧ (blinkReaches phase s).freeIndex = s.freeIndex
      ∧ (blinkReaches phase s).pending = s.pending := by
  unfold blinkReaches
  (repeat' split) <;> simp

end Sys2Proof.Machine
end

