-- ==== Sys2Proof/Laws/Loader.lean ====
section
/-! SUPPORT. What each operation of start-up leaves alone. Resets replace all but the pins, the free-value counter and the queue. -/

namespace Sys2Proof.Machine

open Sys2Proof

/-- A reset leaves the pins, the free-value counter and the queue. -/
@[simp] theorem enterReset_keeps (cause : ResetCause) (s : State) :
    (enterReset cause s).pins = s.pins ∧ (enterReset cause s).freeIndex = s.freeIndex
      ∧ (enterReset cause s).pending = s.pending := ⟨rfl, rfl, rfl⟩

/-- `leaveReset` touches only: station, stationCode, addrCode, pins, host, loader. -/
@[simp] theorem leaveReset_keeps (stn : BitVec 4) (addr : BitVec 2) (s : State) :
    (leaveReset stn addr s).cause = s.cause ∧ (leaveReset stn addr s).profile = s.profile
      ∧ (leaveReset stn addr s).lif = s.lif ∧ (leaveReset stn addr s).owner = s.owner
      ∧ (leaveReset stn addr s).slots = s.slots ∧ (leaveReset stn addr s).chans = s.chans
      ∧ (leaveReset stn addr s).soft = s.soft ∧ (leaveReset stn addr s).inputs = s.inputs
      ∧ (leaveReset stn addr s).patterns = s.patterns ∧ (leaveReset stn addr s).conds = s.conds
      ∧ (leaveReset stn addr s).blink = s.blink ∧ (leaveReset stn addr s).journal = s.journal
      ∧ (leaveReset stn addr s).port = s.port ∧ (leaveReset stn addr s).freeIndex = s.freeIndex
      ∧ (leaveReset stn addr s).pending = s.pending := by
  unfold leaveReset
  simp

/-- `startChannels` touches only: chans. -/
@[simp] theorem startChannels_keeps (s : State) :
    (startChannels s).station = s.station ∧ (startChannels s).cause = s.cause
      ∧ (startChannels s).stationCode = s.stationCode ∧ (startChannels s).addrCode = s.addrCode
      ∧ (startChannels s).profile = s.profile ∧ (startChannels s).loader = s.loader
      ∧ (startChannels s).lif = s.lif ∧ (startChannels s).owner = s.owner
      ∧ (startChannels s).slots = s.slots ∧ (startChannels s).soft = s.soft
      ∧ (startChannels s).inputs = s.inputs ∧ (startChannels s).host = s.host
      ∧ (startChannels s).patterns = s.patterns ∧ (startChannels s).conds = s.conds
      ∧ (startChannels s).blink = s.blink ∧ (startChannels s).journal = s.journal
      ∧ (startChannels s).port = s.port ∧ (startChannels s).pins = s.pins
      ∧ (startChannels s).freeIndex = s.freeIndex ∧ (startChannels s).pending = s.pending := by
  unfold startChannels
  simp

/-- `endLoading` touches only: station, profile, lif, owner, conds, chans, inputs, blink, journal. -/
@[simp] theorem endLoading_keeps (p : Profile) (status : ImageStatus) (s : State) :
    (endLoading p status s).cause = s.cause ∧ (endLoading p status s).stationCode = s.stationCode
      ∧ (endLoading p status s).addrCode = s.addrCode ∧ (endLoading p status s).loader = s.loader
      ∧ (endLoading p status s).slots = s.slots ∧ (endLoading p status s).soft = s.soft
      ∧ (endLoading p status s).host = s.host ∧ (endLoading p status s).patterns = s.patterns
      ∧ (endLoading p status s).port = s.port ∧ (endLoading p status s).pins = s.pins
      ∧ (endLoading p status s).freeIndex = s.freeIndex
      ∧ (endLoading p status s).pending = s.pending := by
  unfold endLoading
  dsimp only
  (repeat' split) <;> simp

/-- `failLoading` touches only: station, profile, lif, owner, conds, chans, inputs, blink, journal, loader. -/
@[simp] theorem failLoading_keeps (reason : FaultReason) (s : State) :
    (failLoading reason s).cause = s.cause ∧ (failLoading reason s).stationCode = s.stationCode
      ∧ (failLoading reason s).addrCode = s.addrCode ∧ (failLoading reason s).slots = s.slots
      ∧ (failLoading reason s).soft = s.soft ∧ (failLoading reason s).host = s.host
      ∧ (failLoading reason s).patterns = s.patterns ∧ (failLoading reason s).port = s.port
      ∧ (failLoading reason s).pins = s.pins ∧ (failLoading reason s).freeIndex = s.freeIndex
      ∧ (failLoading reason s).pending = s.pending := by
  unfold failLoading
  simp

/-- `passLoading` touches only: station, profile, lif, owner, conds, chans, inputs, blink, journal, loader. -/
@[simp] theorem passLoading_keeps (p : Profile) (s : State) :
    (passLoading p s).cause = s.cause ∧ (passLoading p s).stationCode = s.stationCode
      ∧ (passLoading p s).addrCode = s.addrCode ∧ (passLoading p s).slots = s.slots
      ∧ (passLoading p s).soft = s.soft ∧ (passLoading p s).host = s.host
      ∧ (passLoading p s).patterns = s.patterns ∧ (passLoading p s).port = s.port
      ∧ (passLoading p s).pins = s.pins ∧ (passLoading p s).freeIndex = s.freeIndex
      ∧ (passLoading p s).pending = s.pending := by
  unfold passLoading
  simp

/-- `finishRead` touches only: station, profile, lif, owner, conds, chans, inputs, blink, journal, loader. -/
@[simp] theorem finishRead_keeps (s : State) :
    (finishRead s).cause = s.cause ∧ (finishRead s).stationCode = s.stationCode
      ∧ (finishRead s).addrCode = s.addrCode ∧ (finishRead s).slots = s.slots
      ∧ (finishRead s).soft = s.soft ∧ (finishRead s).host = s.host
      ∧ (finishRead s).patterns = s.patterns ∧ (finishRead s).port = s.port
      ∧ (finishRead s).pins = s.pins ∧ (finishRead s).freeIndex = s.freeIndex
      ∧ (finishRead s).pending = s.pending := by
  unfold finishRead
  dsimp only
  (repeat' split) <;> simp

/-- `takeHeaderByte` touches only: station, profile, lif, owner, conds, chans, inputs, blink, journal, loader. -/
@[simp] theorem takeHeaderByte_keeps (b : Byte) (s : State) :
    (takeHeaderByte b s).cause = s.cause ∧ (takeHeaderByte b s).stationCode = s.stationCode
      ∧ (takeHeaderByte b s).addrCode = s.addrCode ∧ (takeHeaderByte b s).slots = s.slots
      ∧ (takeHeaderByte b s).soft = s.soft ∧ (takeHeaderByte b s).host = s.host
      ∧ (takeHeaderByte b s).patterns = s.patterns ∧ (takeHeaderByte b s).port = s.port
      ∧ (takeHeaderByte b s).pins = s.pins ∧ (takeHeaderByte b s).freeIndex = s.freeIndex
      ∧ (takeHeaderByte b s).pending = s.pending := by
  unfold takeHeaderByte
  dsimp only
  (repeat' split) <;> simp

/-- `takeProfileByte` touches only: station, profile, lif, owner, conds, chans, inputs, blink, journal, loader. -/
@[simp] theorem takeProfileByte_keeps (b : Byte) (s : State) :
    (takeProfileByte b s).cause = s.cause ∧ (takeProfileByte b s).stationCode = s.stationCode
      ∧ (takeProfileByte b s).addrCode = s.addrCode ∧ (takeProfileByte b s).slots = s.slots
      ∧ (takeProfileByte b s).soft = s.soft ∧ (takeProfileByte b s).host = s.host
      ∧ (takeProfileByte b s).patterns = s.patterns ∧ (takeProfileByte b s).port = s.port
      ∧ (takeProfileByte b s).pins = s.pins ∧ (takeProfileByte b s).freeIndex = s.freeIndex
      ∧ (takeProfileByte b s).pending = s.pending := by
  unfold takeProfileByte
  dsimp only
  (repeat' split) <;> simp

/-- `takeImageByte` touches only: station, profile, lif, owner, conds, chans, inputs, blink, journal, loader. -/
@[simp] theorem takeImageByte_keeps (b : Byte) (s : State) :
    (takeImageByte b s).cause = s.cause ∧ (takeImageByte b s).stationCode = s.stationCode
      ∧ (takeImageByte b s).addrCode = s.addrCode ∧ (takeImageByte b s).slots = s.slots
      ∧ (takeImageByte b s).soft = s.soft ∧ (takeImageByte b s).host = s.host
      ∧ (takeImageByte b s).patterns = s.patterns ∧ (takeImageByte b s).port = s.port
      ∧ (takeImageByte b s).pins = s.pins ∧ (takeImageByte b s).freeIndex = s.freeIndex
      ∧ (takeImageByte b s).pending = s.pending := by
  unfold takeImageByte
  (repeat' split) <;> simp

end Sys2Proof.Machine
end

