-- ==== Sys2Proof/Laws/Port.lean ====
section
/-! SUPPORT. What each operation of the host port leaves alone. -/

namespace Sys2Proof.Machine

open Sys2Proof

/-- `respond` touches only: port. -/
@[simp] theorem respond_keeps (r : Response) (s : State) :
    (respond r s).station = s.station ∧ (respond r s).cause = s.cause
      ∧ (respond r s).stationCode = s.stationCode ∧ (respond r s).addrCode = s.addrCode
      ∧ (respond r s).profile = s.profile ∧ (respond r s).loader = s.loader
      ∧ (respond r s).lif = s.lif ∧ (respond r s).owner = s.owner ∧ (respond r s).slots = s.slots
      ∧ (respond r s).chans = s.chans ∧ (respond r s).soft = s.soft
      ∧ (respond r s).inputs = s.inputs ∧ (respond r s).host = s.host
      ∧ (respond r s).patterns = s.patterns ∧ (respond r s).conds = s.conds
      ∧ (respond r s).blink = s.blink ∧ (respond r s).journal = s.journal
      ∧ (respond r s).pins = s.pins ∧ (respond r s).freeIndex = s.freeIndex
      ∧ (respond r s).pending = s.pending := by
  unfold respond
  simp

/-- `refuse` touches only: port. -/
@[simp] theorem refuse_keeps (tag : Byte) (result : Result) (s : State) :
    (refuse tag result s).station = s.station ∧ (refuse tag result s).cause = s.cause
      ∧ (refuse tag result s).stationCode = s.stationCode
      ∧ (refuse tag result s).addrCode = s.addrCode ∧ (refuse tag result s).profile = s.profile
      ∧ (refuse tag result s).loader = s.loader ∧ (refuse tag result s).lif = s.lif
      ∧ (refuse tag result s).owner = s.owner ∧ (refuse tag result s).slots = s.slots
      ∧ (refuse tag result s).chans = s.chans ∧ (refuse tag result s).soft = s.soft
      ∧ (refuse tag result s).inputs = s.inputs ∧ (refuse tag result s).host = s.host
      ∧ (refuse tag result s).patterns = s.patterns ∧ (refuse tag result s).conds = s.conds
      ∧ (refuse tag result s).blink = s.blink ∧ (refuse tag result s).journal = s.journal
      ∧ (refuse tag result s).pins = s.pins ∧ (refuse tag result s).freeIndex = s.freeIndex
      ∧ (refuse tag result s).pending = s.pending := by
  unfold refuse
  simp

/-- `answer` touches only: port. -/
@[simp] theorem answer_keeps (tag : Byte) (data : List Byte) (s : State) :
    (answer tag data s).station = s.station ∧ (answer tag data s).cause = s.cause
      ∧ (answer tag data s).stationCode = s.stationCode ∧ (answer tag data s).addrCode = s.addrCode
      ∧ (answer tag data s).profile = s.profile ∧ (answer tag data s).loader = s.loader
      ∧ (answer tag data s).lif = s.lif ∧ (answer tag data s).owner = s.owner
      ∧ (answer tag data s).slots = s.slots ∧ (answer tag data s).chans = s.chans
      ∧ (answer tag data s).soft = s.soft ∧ (answer tag data s).inputs = s.inputs
      ∧ (answer tag data s).host = s.host ∧ (answer tag data s).patterns = s.patterns
      ∧ (answer tag data s).conds = s.conds ∧ (answer tag data s).blink = s.blink
      ∧ (answer tag data s).journal = s.journal ∧ (answer tag data s).pins = s.pins
      ∧ (answer tag data s).freeIndex = s.freeIndex ∧ (answer tag data s).pending = s.pending := by
  unfold answer
  simp

/-- `ackWrite` touches only: port. -/
@[simp] theorem ackWrite_keeps (bytes : Nat) (s : State) :
    (ackWrite bytes s).station = s.station ∧ (ackWrite bytes s).cause = s.cause
      ∧ (ackWrite bytes s).stationCode = s.stationCode ∧ (ackWrite bytes s).addrCode = s.addrCode
      ∧ (ackWrite bytes s).profile = s.profile ∧ (ackWrite bytes s).loader = s.loader
      ∧ (ackWrite bytes s).lif = s.lif ∧ (ackWrite bytes s).owner = s.owner
      ∧ (ackWrite bytes s).slots = s.slots ∧ (ackWrite bytes s).chans = s.chans
      ∧ (ackWrite bytes s).soft = s.soft ∧ (ackWrite bytes s).inputs = s.inputs
      ∧ (ackWrite bytes s).host = s.host ∧ (ackWrite bytes s).patterns = s.patterns
      ∧ (ackWrite bytes s).conds = s.conds ∧ (ackWrite bytes s).blink = s.blink
      ∧ (ackWrite bytes s).journal = s.journal ∧ (ackWrite bytes s).pins = s.pins
      ∧ (ackWrite bytes s).freeIndex = s.freeIndex ∧ (ackWrite bytes s).pending = s.pending := by
  unfold ackWrite
  simp

/-- `actGetStatus` touches only: port. -/
@[simp] theorem actGetStatus_keeps (tag : Byte) (ops : List Byte) (s : State) :
    (actGetStatus tag ops s).station = s.station ∧ (actGetStatus tag ops s).cause = s.cause
      ∧ (actGetStatus tag ops s).stationCode = s.stationCode
      ∧ (actGetStatus tag ops s).addrCode = s.addrCode
      ∧ (actGetStatus tag ops s).profile = s.profile ∧ (actGetStatus tag ops s).loader = s.loader
      ∧ (actGetStatus tag ops s).lif = s.lif ∧ (actGetStatus tag ops s).owner = s.owner
      ∧ (actGetStatus tag ops s).slots = s.slots ∧ (actGetStatus tag ops s).chans = s.chans
      ∧ (actGetStatus tag ops s).soft = s.soft ∧ (actGetStatus tag ops s).inputs = s.inputs
      ∧ (actGetStatus tag ops s).host = s.host ∧ (actGetStatus tag ops s).patterns = s.patterns
      ∧ (actGetStatus tag ops s).conds = s.conds ∧ (actGetStatus tag ops s).blink = s.blink
      ∧ (actGetStatus tag ops s).journal = s.journal ∧ (actGetStatus tag ops s).pins = s.pins
      ∧ (actGetStatus tag ops s).freeIndex = s.freeIndex
      ∧ (actGetStatus tag ops s).pending = s.pending := by
  unfold actGetStatus
  simp

/-- `actGetSlots` touches only: port. -/
@[simp] theorem actGetSlots_keeps (tag : Byte) (ops : List Byte) (s : State) :
    (actGetSlots tag ops s).station = s.station ∧ (actGetSlots tag ops s).cause = s.cause
      ∧ (actGetSlots tag ops s).stationCode = s.stationCode
      ∧ (actGetSlots tag ops s).addrCode = s.addrCode ∧ (actGetSlots tag ops s).profile = s.profile
      ∧ (actGetSlots tag ops s).loader = s.loader ∧ (actGetSlots tag ops s).lif = s.lif
      ∧ (actGetSlots tag ops s).owner = s.owner ∧ (actGetSlots tag ops s).slots = s.slots
      ∧ (actGetSlots tag ops s).chans = s.chans ∧ (actGetSlots tag ops s).soft = s.soft
      ∧ (actGetSlots tag ops s).inputs = s.inputs ∧ (actGetSlots tag ops s).host = s.host
      ∧ (actGetSlots tag ops s).patterns = s.patterns ∧ (actGetSlots tag ops s).conds = s.conds
      ∧ (actGetSlots tag ops s).blink = s.blink ∧ (actGetSlots tag ops s).journal = s.journal
      ∧ (actGetSlots tag ops s).pins = s.pins ∧ (actGetSlots tag ops s).freeIndex = s.freeIndex
      ∧ (actGetSlots tag ops s).pending = s.pending := by
  unfold actGetSlots
  simp

/-- `actGetChannels` touches only: port. -/
@[simp] theorem actGetChannels_keeps (tag : Byte) (ops : List Byte) (s : State) :
    (actGetChannels tag ops s).station = s.station ∧ (actGetChannels tag ops s).cause = s.cause
      ∧ (actGetChannels tag ops s).stationCode = s.stationCode
      ∧ (actGetChannels tag ops s).addrCode = s.addrCode
      ∧ (actGetChannels tag ops s).profile = s.profile
      ∧ (actGetChannels tag ops s).loader = s.loader ∧ (actGetChannels tag ops s).lif = s.lif
      ∧ (actGetChannels tag ops s).owner = s.owner ∧ (actGetChannels tag ops s).slots = s.slots
      ∧ (actGetChannels tag ops s).chans = s.chans ∧ (actGetChannels tag ops s).soft = s.soft
      ∧ (actGetChannels tag ops s).inputs = s.inputs ∧ (actGetChannels tag ops s).host = s.host
      ∧ (actGetChannels tag ops s).patterns = s.patterns
      ∧ (actGetChannels tag ops s).conds = s.conds ∧ (actGetChannels tag ops s).blink = s.blink
      ∧ (actGetChannels tag ops s).journal = s.journal ∧ (actGetChannels tag ops s).pins = s.pins
      ∧ (actGetChannels tag ops s).freeIndex = s.freeIndex
      ∧ (actGetChannels tag ops s).pending = s.pending := by
  unfold actGetChannels
  simp

/-- `actGetPatterns` touches only: port. -/
@[simp] theorem actGetPatterns_keeps (tag : Byte) (ops : List Byte) (s : State) :
    (actGetPatterns tag ops s).station = s.station ∧ (actGetPatterns tag ops s).cause = s.cause
      ∧ (actGetPatterns tag ops s).stationCode = s.stationCode
      ∧ (actGetPatterns tag ops s).addrCode = s.addrCode
      ∧ (actGetPatterns tag ops s).profile = s.profile
      ∧ (actGetPatterns tag ops s).loader = s.loader ∧ (actGetPatterns tag ops s).lif = s.lif
      ∧ (actGetPatterns tag ops s).owner = s.owner ∧ (actGetPatterns tag ops s).slots = s.slots
      ∧ (actGetPatterns tag ops s).chans = s.chans ∧ (actGetPatterns tag ops s).soft = s.soft
      ∧ (actGetPatterns tag ops s).inputs = s.inputs ∧ (actGetPatterns tag ops s).host = s.host
      ∧ (actGetPatterns tag ops s).patterns = s.patterns
      ∧ (actGetPatterns tag ops s).conds = s.conds ∧ (actGetPatterns tag ops s).blink = s.blink
      ∧ (actGetPatterns tag ops s).journal = s.journal ∧ (actGetPatterns tag ops s).pins = s.pins
      ∧ (actGetPatterns tag ops s).freeIndex = s.freeIndex
      ∧ (actGetPatterns tag ops s).pending = s.pending := by
  unfold actGetPatterns
  simp

/-- `actReadJournal` touches only: journal, port. -/
@[simp] theorem actReadJournal_keeps (tag : Byte) (ops : List Byte) (s : State) :
    (actReadJournal tag ops s).station = s.station ∧ (actReadJournal tag ops s).cause = s.cause
      ∧ (actReadJournal tag ops s).stationCode = s.stationCode
      ∧ (actReadJournal tag ops s).addrCode = s.addrCode
      ∧ (actReadJournal tag ops s).profile = s.profile
      ∧ (actReadJournal tag ops s).loader = s.loader ∧ (actReadJournal tag ops s).lif = s.lif
      ∧ (actReadJournal tag ops s).owner = s.owner ∧ (actReadJournal tag ops s).slots = s.slots
      ∧ (actReadJournal tag ops s).chans = s.chans ∧ (actReadJournal tag ops s).soft = s.soft
      ∧ (actReadJournal tag ops s).inputs = s.inputs ∧ (actReadJournal tag ops s).host = s.host
      ∧ (actReadJournal tag ops s).patterns = s.patterns
      ∧ (actReadJournal tag ops s).conds = s.conds ∧ (actReadJournal tag ops s).blink = s.blink
      ∧ (actReadJournal tag ops s).pins = s.pins
      ∧ (actReadJournal tag ops s).freeIndex = s.freeIndex
      ∧ (actReadJournal tag ops s).pending = s.pending := by
  unfold actReadJournal
  simp

/-- `actAckSlots` touches only: port, slots. -/
@[simp] theorem actAckSlots_keeps (tag : Byte) (ops : List Byte) (s : State) :
    (actAckSlots tag ops s).station = s.station ∧ (actAckSlots tag ops s).cause = s.cause
      ∧ (actAckSlots tag ops s).stationCode = s.stationCode
      ∧ (actAckSlots tag ops s).addrCode = s.addrCode ∧ (actAckSlots tag ops s).profile = s.profile
      ∧ (actAckSlots tag ops s).loader = s.loader ∧ (actAckSlots tag ops s).lif = s.lif
      ∧ (actAckSlots tag ops s).owner = s.owner ∧ (actAckSlots tag ops s).chans = s.chans
      ∧ (actAckSlots tag ops s).soft = s.soft ∧ (actAckSlots tag ops s).inputs = s.inputs
      ∧ (actAckSlots tag ops s).host = s.host ∧ (actAckSlots tag ops s).patterns = s.patterns
      ∧ (actAckSlots tag ops s).conds = s.conds ∧ (actAckSlots tag ops s).blink = s.blink
      ∧ (actAckSlots tag ops s).journal = s.journal ∧ (actAckSlots tag ops s).pins = s.pins
      ∧ (actAckSlots tag ops s).freeIndex = s.freeIndex
      ∧ (actAckSlots tag ops s).pending = s.pending := by
  unfold actAckSlots
  simp

/-- `actAckConditions` touches only: port, conds, chans. -/
@[simp] theorem actAckConditions_keeps (tag : Byte) (ops : List Byte) (s : State) :
    (actAckConditions tag ops s).station = s.station ∧ (actAckConditions tag ops s).cause = s.cause
      ∧ (actAckConditions tag ops s).stationCode = s.stationCode
      ∧ (actAckConditions tag ops s).addrCode = s.addrCode
      ∧ (actAckConditions tag ops s).profile = s.profile
      ∧ (actAckConditions tag ops s).loader = s.loader ∧ (actAckConditions tag ops s).lif = s.lif
      ∧ (actAckConditions tag ops s).owner = s.owner ∧ (actAckConditions tag ops s).slots = s.slots
      ∧ (actAckConditions tag ops s).soft = s.soft ∧ (actAckConditions tag ops s).inputs = s.inputs
      ∧ (actAckConditions tag ops s).host = s.host
      ∧ (actAckConditions tag ops s).patterns = s.patterns
      ∧ (actAckConditions tag ops s).blink = s.blink
      ∧ (actAckConditions tag ops s).journal = s.journal
      ∧ (actAckConditions tag ops s).pins = s.pins
      ∧ (actAckConditions tag ops s).freeIndex = s.freeIndex
      ∧ (actAckConditions tag ops s).pending = s.pending := by
  unfold actAckConditions
  dsimp only
  (repeat' split) <;> simp

/-- `actAckPatterns` touches only: port, patterns, chans. -/
@[simp] theorem actAckPatterns_keeps (tag : Byte) (ops : List Byte) (s : State) :
    (actAckPatterns tag ops s).station = s.station ∧ (actAckPatterns tag ops s).cause = s.cause
      ∧ (actAckPatterns tag ops s).stationCode = s.stationCode
      ∧ (actAckPatterns tag ops s).addrCode = s.addrCode
      ∧ (actAckPatterns tag ops s).profile = s.profile
      ∧ (actAckPatterns tag ops s).loader = s.loader ∧ (actAckPatterns tag ops s).lif = s.lif
      ∧ (actAckPatterns tag ops s).owner = s.owner ∧ (actAckPatterns tag ops s).slots = s.slots
      ∧ (actAckPatterns tag ops s).soft = s.soft ∧ (actAckPatterns tag ops s).inputs = s.inputs
      ∧ (actAckPatterns tag ops s).host = s.host ∧ (actAckPatterns tag ops s).conds = s.conds
      ∧ (actAckPatterns tag ops s).blink = s.blink ∧ (actAckPatterns tag ops s).journal = s.journal
      ∧ (actAckPatterns tag ops s).pins = s.pins
      ∧ (actAckPatterns tag ops s).freeIndex = s.freeIndex
      ∧ (actAckPatterns tag ops s).pending = s.pending := by
  unfold actAckPatterns
  simp

/-- `actSetSoft` touches only: port, soft, chans. -/
@[simp] theorem actSetSoft_keeps (tag : Byte) (ops : List Byte) (s : State) :
    (actSetSoft tag ops s).station = s.station ∧ (actSetSoft tag ops s).cause = s.cause
      ∧ (actSetSoft tag ops s).stationCode = s.stationCode
      ∧ (actSetSoft tag ops s).addrCode = s.addrCode ∧ (actSetSoft tag ops s).profile = s.profile
      ∧ (actSetSoft tag ops s).loader = s.loader ∧ (actSetSoft tag ops s).lif = s.lif
      ∧ (actSetSoft tag ops s).owner = s.owner ∧ (actSetSoft tag ops s).slots = s.slots
      ∧ (actSetSoft tag ops s).inputs = s.inputs ∧ (actSetSoft tag ops s).host = s.host
      ∧ (actSetSoft tag ops s).patterns = s.patterns ∧ (actSetSoft tag ops s).conds = s.conds
      ∧ (actSetSoft tag ops s).blink = s.blink ∧ (actSetSoft tag ops s).journal = s.journal
      ∧ (actSetSoft tag ops s).pins = s.pins ∧ (actSetSoft tag ops s).freeIndex = s.freeIndex
      ∧ (actSetSoft tag ops s).pending = s.pending := by
  unfold actSetSoft
  simp

/-- `actPulseSoft` touches only: port, soft, chans. -/
@[simp] theorem actPulseSoft_keeps (tag : Byte) (ops : List Byte) (s : State) :
    (actPulseSoft tag ops s).station = s.station ∧ (actPulseSoft tag ops s).cause = s.cause
      ∧ (actPulseSoft tag ops s).stationCode = s.stationCode
      ∧ (actPulseSoft tag ops s).addrCode = s.addrCode
      ∧ (actPulseSoft tag ops s).profile = s.profile ∧ (actPulseSoft tag ops s).loader = s.loader
      ∧ (actPulseSoft tag ops s).lif = s.lif ∧ (actPulseSoft tag ops s).owner = s.owner
      ∧ (actPulseSoft tag ops s).slots = s.slots ∧ (actPulseSoft tag ops s).inputs = s.inputs
      ∧ (actPulseSoft tag ops s).host = s.host ∧ (actPulseSoft tag ops s).patterns = s.patterns
      ∧ (actPulseSoft tag ops s).conds = s.conds ∧ (actPulseSoft tag ops s).blink = s.blink
      ∧ (actPulseSoft tag ops s).journal = s.journal ∧ (actPulseSoft tag ops s).pins = s.pins
      ∧ (actPulseSoft tag ops s).freeIndex = s.freeIndex
      ∧ (actPulseSoft tag ops s).pending = s.pending := by
  unfold actPulseSoft
  simp

/-- A write taken as a request leaves alone what its own action leaves alone, but for the port and the
hand-over. -/
theorem takeRequest_keeps {β : Type} (g : State → β) (code : Option RequestCode) (rest : List Byte)
    (act : Byte → List Byte → State → State) (s : State)
    (hj : ∀ s x, g (s.setJournal x) = g s) (hp : ∀ s x, g (s.setPort x) = g s)
    (ha : ∀ t o s, g (act t o s) = g s) : g (takeRequest code rest act s) = g s := by
  have hr : ∀ t r s, g (refuse t r s) = g s := fun t r s => hp s _
  have he : ∀ n s, g (endHandOver (ackWrite n s)) = g s := fun n s => by
    show g (State.setPort _ _) = _
    rw [hp, hj]; exact hp s _
  unfold takeRequest
  dsimp only
  (repeat' split) <;> simp only [ha, hr, he]

/-- `requestGetStatus` touches only: journal, port. -/
@[simp] theorem requestGetStatus_keeps (rest : List Byte) (s : State) :
    (requestGetStatus rest s).station = s.station ∧ (requestGetStatus rest s).cause = s.cause
      ∧ (requestGetStatus rest s).stationCode = s.stationCode
      ∧ (requestGetStatus rest s).addrCode = s.addrCode
      ∧ (requestGetStatus rest s).profile = s.profile ∧ (requestGetStatus rest s).loader = s.loader
      ∧ (requestGetStatus rest s).lif = s.lif ∧ (requestGetStatus rest s).owner = s.owner
      ∧ (requestGetStatus rest s).slots = s.slots ∧ (requestGetStatus rest s).chans = s.chans
      ∧ (requestGetStatus rest s).soft = s.soft ∧ (requestGetStatus rest s).inputs = s.inputs
      ∧ (requestGetStatus rest s).host = s.host ∧ (requestGetStatus rest s).patterns = s.patterns
      ∧ (requestGetStatus rest s).conds = s.conds ∧ (requestGetStatus rest s).blink = s.blink
      ∧ (requestGetStatus rest s).pins = s.pins ∧ (requestGetStatus rest s).freeIndex = s.freeIndex
      ∧ (requestGetStatus rest s).pending = s.pending := by
  unfold requestGetStatus
  refine ⟨?_, ?_, ?_, ?_, ?_, ?_, ?_, ?_, ?_, ?_, ?_, ?_, ?_, ?_, ?_, ?_, ?_, ?_, ?_⟩ <;>
    apply takeRequest_keeps <;> intros <;> simp

/-- `requestGetSlots` touches only: journal, port. -/
@[simp] theorem requestGetSlots_keeps (rest : List Byte) (s : State) :
    (requestGetSlots rest s).station = s.station ∧ (requestGetSlots rest s).cause = s.cause
      ∧ (requestGetSlots rest s).stationCode = s.stationCode
      ∧ (requestGetSlots rest s).addrCode = s.addrCode
      ∧ (requestGetSlots rest s).profile = s.profile ∧ (requestGetSlots rest s).loader = s.loader
      ∧ (requestGetSlots rest s).lif = s.lif ∧ (requestGetSlots rest s).owner = s.owner
      ∧ (requestGetSlots rest s).slots = s.slots ∧ (requestGetSlots rest s).chans = s.chans
      ∧ (requestGetSlots rest s).soft = s.soft ∧ (requestGetSlots rest s).inputs = s.inputs
      ∧ (requestGetSlots rest s).host = s.host ∧ (requestGetSlots rest s).patterns = s.patterns
      ∧ (requestGetSlots rest s).conds = s.conds ∧ (requestGetSlots rest s).blink = s.blink
      ∧ (requestGetSlots rest s).pins = s.pins ∧ (requestGetSlots rest s).freeIndex = s.freeIndex
      ∧ (requestGetSlots rest s).pending = s.pending := by
  unfold requestGetSlots
  refine ⟨?_, ?_, ?_, ?_, ?_, ?_, ?_, ?_, ?_, ?_, ?_, ?_, ?_, ?_, ?_, ?_, ?_, ?_, ?_⟩ <;>
    apply takeRequest_keeps <;> intros <;> simp

/-- `requestGetChannels` touches only: journal, port. -/
@[simp] theorem requestGetChannels_keeps (rest : List Byte) (s : State) :
    (requestGetChannels rest s).station = s.station ∧ (requestGetChannels rest s).cause = s.cause
      ∧ (requestGetChannels rest s).stationCode = s.stationCode
      ∧ (requestGetChannels rest s).addrCode = s.addrCode
      ∧ (requestGetChannels rest s).profile = s.profile
      ∧ (requestGetChannels rest s).loader = s.loader ∧ (requestGetChannels rest s).lif = s.lif
      ∧ (requestGetChannels rest s).owner = s.owner ∧ (requestGetChannels rest s).slots = s.slots
      ∧ (requestGetChannels rest s).chans = s.chans ∧ (requestGetChannels rest s).soft = s.soft
      ∧ (requestGetChannels rest s).inputs = s.inputs ∧ (requestGetChannels rest s).host = s.host
      ∧ (requestGetChannels rest s).patterns = s.patterns
      ∧ (requestGetChannels rest s).conds = s.conds ∧ (requestGetChannels rest s).blink = s.blink
      ∧ (requestGetChannels rest s).pins = s.pins
      ∧ (requestGetChannels rest s).freeIndex = s.freeIndex
      ∧ (requestGetChannels rest s).pending = s.pending := by
  unfold requestGetChannels
  refine ⟨?_, ?_, ?_, ?_, ?_, ?_, ?_, ?_, ?_, ?_, ?_, ?_, ?_, ?_, ?_, ?_, ?_, ?_, ?_⟩ <;>
    apply takeRequest_keeps <;> intros <;> simp

/-- `requestGetPatterns` touches only: journal, port. -/
@[simp] theorem requestGetPatterns_keeps (rest : List Byte) (s : State) :
    (requestGetPatterns rest s).station = s.station ∧ (requestGetPatterns rest s).cause = s.cause
      ∧ (requestGetPatterns rest s).stationCode = s.stationCode
      ∧ (requestGetPatterns rest s).addrCode = s.addrCode
      ∧ (requestGetPatterns rest s).profile = s.profile
      ∧ (requestGetPatterns rest s).loader = s.loader ∧ (requestGetPatterns rest s).lif = s.lif
      ∧ (requestGetPatterns rest s).owner = s.owner ∧ (requestGetPatterns rest s).slots = s.slots
      ∧ (requestGetPatterns rest s).chans = s.chans ∧ (requestGetPatterns rest s).soft = s.soft
      ∧ (requestGetPatterns rest s).inputs = s.inputs ∧ (requestGetPatterns rest s).host = s.host
      ∧ (requestGetPatterns rest s).patterns = s.patterns
      ∧ (requestGetPatterns rest s).conds = s.conds ∧ (requestGetPatterns rest s).blink = s.blink
      ∧ (requestGetPatterns rest s).pins = s.pins
      ∧ (requestGetPatterns rest s).freeIndex = s.freeIndex
      ∧ (requestGetPatterns rest s).pending = s.pending := by
  unfold requestGetPatterns
  refine ⟨?_, ?_, ?_, ?_, ?_, ?_, ?_, ?_, ?_, ?_, ?_, ?_, ?_, ?_, ?_, ?_, ?_, ?_, ?_⟩ <;>
    apply takeRequest_keeps <;> intros <;> simp

/-- `requestReadJournal` touches only: journal, port. -/
@[simp] theorem requestReadJournal_keeps (rest : List Byte) (s : State) :
    (requestReadJournal rest s).station = s.station ∧ (requestReadJournal rest s).cause = s.cause
      ∧ (requestReadJournal rest s).stationCode = s.stationCode
      ∧ (requestReadJournal rest s).addrCode = s.addrCode
      ∧ (requestReadJournal rest s).profile = s.profile
      ∧ (requestReadJournal rest s).loader = s.loader ∧ (requestReadJournal rest s).lif = s.lif
      ∧ (requestReadJournal rest s).owner = s.owner ∧ (requestReadJournal rest s).slots = s.slots
      ∧ (requestReadJournal rest s).chans = s.chans ∧ (requestReadJournal rest s).soft = s.soft
      ∧ (requestReadJournal rest s).inputs = s.inputs ∧ (requestReadJournal rest s).host = s.host
      ∧ (requestReadJournal rest s).patterns = s.patterns
      ∧ (requestReadJournal rest s).conds = s.conds ∧ (requestReadJournal rest s).blink = s.blink
      ∧ (requestReadJournal rest s).pins = s.pins
      ∧ (requestReadJournal rest s).freeIndex = s.freeIndex
      ∧ (requestReadJournal rest s).pending = s.pending := by
  unfold requestReadJournal
  refine ⟨?_, ?_, ?_, ?_, ?_, ?_, ?_, ?_, ?_, ?_, ?_, ?_, ?_, ?_, ?_, ?_, ?_, ?_, ?_⟩ <;>
    apply takeRequest_keeps <;> intros <;> simp

/-- `requestAckSlots` touches only: journal, port, slots. -/
@[simp] theorem requestAckSlots_keeps (rest : List Byte) (s : State) :
    (requestAckSlots rest s).station = s.station ∧ (requestAckSlots rest s).cause = s.cause
      ∧ (requestAckSlots rest s).stationCode = s.stationCode
      ∧ (requestAckSlots rest s).addrCode = s.addrCode
      ∧ (requestAckSlots rest s).profile = s.profile ∧ (requestAckSlots rest s).loader = s.loader
      ∧ (requestAckSlots rest s).lif = s.lif ∧ (requestAckSlots rest s).owner = s.owner
      ∧ (requestAckSlots rest s).chans = s.chans ∧ (requestAckSlots rest s).soft = s.soft
      ∧ (requestAckSlots rest s).inputs = s.inputs ∧ (requestAckSlots rest s).host = s.host
      ∧ (requestAckSlots rest s).patterns = s.patterns ∧ (requestAckSlots rest s).conds = s.conds
      ∧ (requestAckSlots rest s).blink = s.blink ∧ (requestAckSlots rest s).pins = s.pins
      ∧ (requestAckSlots rest s).freeIndex = s.freeIndex
      ∧ (requestAckSlots rest s).pending = s.pending := by
  unfold requestAckSlots
  refine ⟨?_, ?_, ?_, ?_, ?_, ?_, ?_, ?_, ?_, ?_, ?_, ?_, ?_, ?_, ?_, ?_, ?_, ?_⟩ <;>
    apply takeRequest_keeps <;> intros <;> simp

/-- `requestAckConditions` touches only: journal, port, conds, chans. -/
@[simp] theorem requestAckConditions_keeps (rest : List Byte) (s : State) :
    (requestAckConditions rest s).station = s.station
      ∧ (requestAckConditions rest s).cause = s.cause
      ∧ (requestAckConditions rest s).stationCode = s.stationCode
      ∧ (requestAckConditions rest s).addrCode = s.addrCode
      ∧ (requestAckConditions rest s).profile = s.profile
      ∧ (requestAckConditions rest s).loader = s.loader ∧ (requestAckConditions rest s).lif = s.lif
      ∧ (requestAckConditions rest s).owner = s.owner
      ∧ (requestAckConditions rest s).slots = s.slots ∧ (requestAckConditions rest s).soft = s.soft
      ∧ (requestAckConditions rest s).inputs = s.inputs
      ∧ (requestAckConditions rest s).host = s.host
      ∧ (requestAckConditions rest s).patterns = s.patterns
      ∧ (requestAckConditions rest s).blink = s.blink ∧ (requestAckConditions rest s).pins = s.pins
      ∧ (requestAckConditions rest s).freeIndex = s.freeIndex
      ∧ (requestAckConditions rest s).pending = s.pending := by
  unfold requestAckConditions
  refine ⟨?_, ?_, ?_, ?_, ?_, ?_, ?_, ?_, ?_, ?_, ?_, ?_, ?_, ?_, ?_, ?_, ?_⟩ <;>
    apply takeRequest_keeps <;> intros <;> simp

/-- `requestAckPatterns` touches only: journal, port, patterns, chans. -/
@[simp] theorem requestAckPatterns_keeps (rest : List Byte) (s : State) :
    (requestAckPatterns rest s).station = s.station ∧ (requestAckPatterns rest s).cause = s.cause
      ∧ (requestAckPatterns rest s).stationCode = s.stationCode
      ∧ (requestAckPatterns rest s).addrCode = s.addrCode
      ∧ (requestAckPatterns rest s).profile = s.profile
      ∧ (requestAckPatterns rest s).loader = s.loader ∧ (requestAckPatterns rest s).lif = s.lif
      ∧ (requestAckPatterns rest s).owner = s.owner ∧ (requestAckPatterns rest s).slots = s.slots
      ∧ (requestAckPatterns rest s).soft = s.soft ∧ (requestAckPatterns rest s).inputs = s.inputs
      ∧ (requestAckPatterns rest s).host = s.host ∧ (requestAckPatterns rest s).conds = s.conds
      ∧ (requestAckPatterns rest s).blink = s.blink ∧ (requestAckPatterns rest s).pins = s.pins
      ∧ (requestAckPatterns rest s).freeIndex = s.freeIndex
      ∧ (requestAckPatterns rest s).pending = s.pending := by
  unfold requestAckPatterns
  refine ⟨?_, ?_, ?_, ?_, ?_, ?_, ?_, ?_, ?_, ?_, ?_, ?_, ?_, ?_, ?_, ?_, ?_⟩ <;>
    apply takeRequest_keeps <;> intros <;> simp

/-- `requestSetSoft` touches only: journal, port, soft, chans. -/
@[simp] theorem requestSetSoft_keeps (rest : List Byte) (s : State) :
    (requestSetSoft rest s).station = s.station ∧ (requestSetSoft rest s).cause = s.cause
      ∧ (requestSetSoft rest s).stationCode = s.stationCode
      ∧ (requestSetSoft rest s).addrCode = s.addrCode ∧ (requestSetSoft rest s).profile = s.profile
      ∧ (requestSetSoft rest s).loader = s.loader ∧ (requestSetSoft rest s).lif = s.lif
      ∧ (requestSetSoft rest s).owner = s.owner ∧ (requestSetSoft rest s).slots = s.slots
      ∧ (requestSetSoft rest s).inputs = s.inputs ∧ (requestSetSoft rest s).host = s.host
      ∧ (requestSetSoft rest s).patterns = s.patterns ∧ (requestSetSoft rest s).conds = s.conds
      ∧ (requestSetSoft rest s).blink = s.blink ∧ (requestSetSoft rest s).pins = s.pins
      ∧ (requestSetSoft rest s).freeIndex = s.freeIndex
      ∧ (requestSetSoft rest s).pending = s.pending := by
  unfold requestSetSoft
  refine ⟨?_, ?_, ?_, ?_, ?_, ?_, ?_, ?_, ?_, ?_, ?_, ?_, ?_, ?_, ?_, ?_, ?_⟩ <;>
    apply takeRequest_keeps <;> intros <;> simp

/-- `requestPulseSoft` touches only: journal, port, soft, chans. -/
@[simp] theorem requestPulseSoft_keeps (rest : List Byte) (s : State) :
    (requestPulseSoft rest s).station = s.station ∧ (requestPulseSoft rest s).cause = s.cause
      ∧ (requestPulseSoft rest s).stationCode = s.stationCode
      ∧ (requestPulseSoft rest s).addrCode = s.addrCode
      ∧ (requestPulseSoft rest s).profile = s.profile ∧ (requestPulseSoft rest s).loader = s.loader
      ∧ (requestPulseSoft rest s).lif = s.lif ∧ (requestPulseSoft rest s).owner = s.owner
      ∧ (requestPulseSoft rest s).slots = s.slots ∧ (requestPulseSoft rest s).inputs = s.inputs
      ∧ (requestPulseSoft rest s).host = s.host ∧ (requestPulseSoft rest s).patterns = s.patterns
      ∧ (requestPulseSoft rest s).conds = s.conds ∧ (requestPulseSoft rest s).blink = s.blink
      ∧ (requestPulseSoft rest s).pins = s.pins ∧ (requestPulseSoft rest s).freeIndex = s.freeIndex
      ∧ (requestPulseSoft rest s).pending = s.pending := by
  unfold requestPulseSoft
  refine ⟨?_, ?_, ?_, ?_, ?_, ?_, ?_, ?_, ?_, ?_, ?_, ?_, ?_, ?_, ?_, ?_, ?_⟩ <;>
    apply takeRequest_keeps <;> intros <;> simp

/-- `requestUnknown` touches only: journal, port. -/
@[simp] theorem requestUnknown_keeps (rest : List Byte) (s : State) :
    (requestUnknown rest s).station = s.station ∧ (requestUnknown rest s).cause = s.cause
      ∧ (requestUnknown rest s).stationCode = s.stationCode
      ∧ (requestUnknown rest s).addrCode = s.addrCode ∧ (requestUnknown rest s).profile = s.profile
      ∧ (requestUnknown rest s).loader = s.loader ∧ (requestUnknown rest s).lif = s.lif
      ∧ (requestUnknown rest s).owner = s.owner ∧ (requestUnknown rest s).slots = s.slots
      ∧ (requestUnknown rest s).chans = s.chans ∧ (requestUnknown rest s).soft = s.soft
      ∧ (requestUnknown rest s).inputs = s.inputs ∧ (requestUnknown rest s).host = s.host
      ∧ (requestUnknown rest s).patterns = s.patterns ∧ (requestUnknown rest s).conds = s.conds
      ∧ (requestUnknown rest s).blink = s.blink ∧ (requestUnknown rest s).pins = s.pins
      ∧ (requestUnknown rest s).freeIndex = s.freeIndex
      ∧ (requestUnknown rest s).pending = s.pending := by
  unfold requestUnknown
  refine ⟨?_, ?_, ?_, ?_, ?_, ?_, ?_, ?_, ?_, ?_, ?_, ?_, ?_, ?_, ?_, ?_, ?_, ?_, ?_⟩ <;>
    apply takeRequest_keeps <;> intros <;> simp

/-- `readToEnd` touches only: journal, port. -/
@[simp] theorem readToEnd_keeps (s : State) :
    (readToEnd s).station = s.station ∧ (readToEnd s).cause = s.cause
      ∧ (readToEnd s).stationCode = s.stationCode ∧ (readToEnd s).addrCode = s.addrCode
      ∧ (readToEnd s).profile = s.profile ∧ (readToEnd s).loader = s.loader
      ∧ (readToEnd s).lif = s.lif ∧ (readToEnd s).owner = s.owner ∧ (readToEnd s).slots = s.slots
      ∧ (readToEnd s).chans = s.chans ∧ (readToEnd s).soft = s.soft
      ∧ (readToEnd s).inputs = s.inputs ∧ (readToEnd s).host = s.host
      ∧ (readToEnd s).patterns = s.patterns ∧ (readToEnd s).conds = s.conds
      ∧ (readToEnd s).blink = s.blink ∧ (readToEnd s).pins = s.pins
      ∧ (readToEnd s).freeIndex = s.freeIndex ∧ (readToEnd s).pending = s.pending := by
  unfold readToEnd
  dsimp only
  (repeat' split) <;> simp

/-- `readResponse` touches only: journal, port. -/
@[simp] theorem readResponse_keeps (n : Nat) (s : State) :
    (readResponse n s).station = s.station ∧ (readResponse n s).cause = s.cause
      ∧ (readResponse n s).stationCode = s.stationCode ∧ (readResponse n s).addrCode = s.addrCode
      ∧ (readResponse n s).profile = s.profile ∧ (readResponse n s).loader = s.loader
      ∧ (readResponse n s).lif = s.lif ∧ (readResponse n s).owner = s.owner
      ∧ (readResponse n s).slots = s.slots ∧ (readResponse n s).chans = s.chans
      ∧ (readResponse n s).soft = s.soft ∧ (readResponse n s).inputs = s.inputs
      ∧ (readResponse n s).host = s.host ∧ (readResponse n s).patterns = s.patterns
      ∧ (readResponse n s).conds = s.conds ∧ (readResponse n s).blink = s.blink
      ∧ (readResponse n s).pins = s.pins ∧ (readResponse n s).freeIndex = s.freeIndex
      ∧ (readResponse n s).pending = s.pending := by
  unfold readResponse
  dsimp only
  (repeat' split) <;> simp

/-! ### The port's address and its side of SDA (R163 to R165) -/

@[simp] theorem portAddress_toNat (s : State) :
    (portAddress s).toNat = 0x3A + s.addrCode.toNat := by
  have h := s.addrCode.isLt
  simp only [portAddress, Config.portBase, BitVec.toNat_add, BitVec.toNat_setWidth,
    BitVec.toNat_ofNat]
  omega

@[simp] theorem portAnswers_iff (s : State) (dst : BitVec 7) :
    portAnswers s dst = true ↔ s.station ≠ .reset ∧ dst = portAddress s := by
  simp [portAnswers]

/-- A transaction addressed to the port reaches it, but in RESET. -/
theorem addressed_own (f : State → State) (s : State) (h : s.station ≠ .reset) :
    addressed (portAddress s) f s = f s := by
  simp [addressed, h]

/-- A transaction addressed elsewhere, or in RESET, changes nothing. -/
theorem addressed_elsewhere (dst : BitVec 7) (f : State → State) (s : State)
    (h : s.station = .reset ∨ dst ≠ portAddress s) : addressed dst f s = s := by
  unfold addressed
  rw [if_neg]
  simp only [portAnswers_iff]
  tauto

/-- What a transaction leaves alone once it reaches the port, it leaves alone. -/
theorem addressed_keeps {β : Type} (g : State → β) (dst : BitVec 7) (f : State → State) (s : State)
    (h : g (f s) = g s) : g (addressed dst f s) = g s := by
  unfold addressed
  split
  · exact h
  · rfl

@[simp] theorem Port.readBytes_length (p : Port) (n : Nat) : (p.readBytes n).length = n := by
  simp [Port.readBytes]
  omega

/-- The bytes of a read are those that the port sends bit by bit. -/
theorem Port.readBytes_get (p : Port) (n m : Nat) (h : m < n) :
    (p.readBytes n)[m]? = some (p.readByte m) := by
  by_cases hm : m < p.responseBytes.length
  · simp [Port.readBytes, Port.readByte, List.getElem?_append, hm, h]
  · simp only [Port.readBytes, Port.readByte, List.getElem?_append, List.length_take,
      List.getElem?_replicate, List.getD_eq_getElem?_getD]
    rw [if_neg (by omega), if_pos (by omega), List.getElem?_eq_none (by omega)]
    rfl

end Sys2Proof.Machine
end

