-- ==== Sys2Proof/Laws/Frame.lean ====
section
/-! SUPPORT. What each operation of the frame end leaves alone. -/

namespace Sys2Proof.Machine

open Sys2Proof

/-- `countValid` touches only: lif. -/
@[simp] theorem countValid_keeps (s : State) :
    (countValid s).station = s.station ∧ (countValid s).cause = s.cause
      ∧ (countValid s).stationCode = s.stationCode ∧ (countValid s).addrCode = s.addrCode
      ∧ (countValid s).profile = s.profile ∧ (countValid s).loader = s.loader
      ∧ (countValid s).owner = s.owner ∧ (countValid s).slots = s.slots
      ∧ (countValid s).chans = s.chans ∧ (countValid s).soft = s.soft
      ∧ (countValid s).inputs = s.inputs ∧ (countValid s).host = s.host
      ∧ (countValid s).patterns = s.patterns ∧ (countValid s).conds = s.conds
      ∧ (countValid s).blink = s.blink ∧ (countValid s).journal = s.journal
      ∧ (countValid s).port = s.port ∧ (countValid s).pins = s.pins
      ∧ (countValid s).freeIndex = s.freeIndex ∧ (countValid s).pending = s.pending := by
  unfold countValid
  simp

/-- `consumeHeads` touches only: chans. -/
@[simp] theorem consumeHeads_keeps (s : State) :
    (consumeHeads s).station = s.station ∧ (consumeHeads s).cause = s.cause
      ∧ (consumeHeads s).stationCode = s.stationCode ∧ (consumeHeads s).addrCode = s.addrCode
      ∧ (consumeHeads s).profile = s.profile ∧ (consumeHeads s).loader = s.loader
      ∧ (consumeHeads s).lif = s.lif ∧ (consumeHeads s).owner = s.owner
      ∧ (consumeHeads s).slots = s.slots ∧ (consumeHeads s).soft = s.soft
      ∧ (consumeHeads s).inputs = s.inputs ∧ (consumeHeads s).host = s.host
      ∧ (consumeHeads s).patterns = s.patterns ∧ (consumeHeads s).conds = s.conds
      ∧ (consumeHeads s).blink = s.blink ∧ (consumeHeads s).journal = s.journal
      ∧ (consumeHeads s).port = s.port ∧ (consumeHeads s).pins = s.pins
      ∧ (consumeHeads s).freeIndex = s.freeIndex ∧ (consumeHeads s).pending = s.pending := by
  unfold consumeHeads
  simp

/-- `discardRecord` touches only: lif. -/
@[simp] theorem discardRecord_keeps (s : State) :
    (discardRecord s).station = s.station ∧ (discardRecord s).cause = s.cause
      ∧ (discardRecord s).stationCode = s.stationCode ∧ (discardRecord s).addrCode = s.addrCode
      ∧ (discardRecord s).profile = s.profile ∧ (discardRecord s).loader = s.loader
      ∧ (discardRecord s).owner = s.owner ∧ (discardRecord s).slots = s.slots
      ∧ (discardRecord s).chans = s.chans ∧ (discardRecord s).soft = s.soft
      ∧ (discardRecord s).inputs = s.inputs ∧ (discardRecord s).host = s.host
      ∧ (discardRecord s).patterns = s.patterns ∧ (discardRecord s).conds = s.conds
      ∧ (discardRecord s).blink = s.blink ∧ (discardRecord s).journal = s.journal
      ∧ (discardRecord s).port = s.port ∧ (discardRecord s).pins = s.pins
      ∧ (discardRecord s).freeIndex = s.freeIndex ∧ (discardRecord s).pending = s.pending := by
  unfold discardRecord
  simp

/-- `countCensus` touches only: owner. -/
@[simp] theorem countCensus_keeps (s : State) :
    (countCensus s).station = s.station ∧ (countCensus s).cause = s.cause
      ∧ (countCensus s).stationCode = s.stationCode ∧ (countCensus s).addrCode = s.addrCode
      ∧ (countCensus s).profile = s.profile ∧ (countCensus s).loader = s.loader
      ∧ (countCensus s).lif = s.lif ∧ (countCensus s).slots = s.slots
      ∧ (countCensus s).chans = s.chans ∧ (countCensus s).soft = s.soft
      ∧ (countCensus s).inputs = s.inputs ∧ (countCensus s).host = s.host
      ∧ (countCensus s).patterns = s.patterns ∧ (countCensus s).conds = s.conds
      ∧ (countCensus s).blink = s.blink ∧ (countCensus s).journal = s.journal
      ∧ (countCensus s).port = s.port ∧ (countCensus s).pins = s.pins
      ∧ (countCensus s).freeIndex = s.freeIndex ∧ (countCensus s).pending = s.pending := by
  unfold countCensus
  simp

/-- `decideClaims` touches only: chans. -/
@[simp] theorem decideClaims_keeps (s : State) :
    (decideClaims s).station = s.station ∧ (decideClaims s).cause = s.cause
      ∧ (decideClaims s).stationCode = s.stationCode ∧ (decideClaims s).addrCode = s.addrCode
      ∧ (decideClaims s).profile = s.profile ∧ (decideClaims s).loader = s.loader
      ∧ (decideClaims s).lif = s.lif ∧ (decideClaims s).owner = s.owner
      ∧ (decideClaims s).slots = s.slots ∧ (decideClaims s).soft = s.soft
      ∧ (decideClaims s).inputs = s.inputs ∧ (decideClaims s).host = s.host
      ∧ (decideClaims s).patterns = s.patterns ∧ (decideClaims s).conds = s.conds
      ∧ (decideClaims s).blink = s.blink ∧ (decideClaims s).journal = s.journal
      ∧ (decideClaims s).port = s.port ∧ (decideClaims s).pins = s.pins
      ∧ (decideClaims s).freeIndex = s.freeIndex ∧ (decideClaims s).pending = s.pending := by
  unfold decideClaims
  simp

/-- `reportConflicts` touches only: journal, conds, chans. -/
@[simp] theorem reportConflicts_keeps (chans : List (Fin 16)) (s : State) :
    (reportConflicts chans s).station = s.station ∧ (reportConflicts chans s).cause = s.cause
      ∧ (reportConflicts chans s).stationCode = s.stationCode
      ∧ (reportConflicts chans s).addrCode = s.addrCode
      ∧ (reportConflicts chans s).profile = s.profile ∧ (reportConflicts chans s).loader = s.loader
      ∧ (reportConflicts chans s).lif = s.lif ∧ (reportConflicts chans s).owner = s.owner
      ∧ (reportConflicts chans s).slots = s.slots ∧ (reportConflicts chans s).soft = s.soft
      ∧ (reportConflicts chans s).inputs = s.inputs ∧ (reportConflicts chans s).host = s.host
      ∧ (reportConflicts chans s).patterns = s.patterns ∧ (reportConflicts chans s).blink = s.blink
      ∧ (reportConflicts chans s).port = s.port ∧ (reportConflicts chans s).pins = s.pins
      ∧ (reportConflicts chans s).freeIndex = s.freeIndex
      ∧ (reportConflicts chans s).pending = s.pending := by
  unfold reportConflicts
  induction chans generalizing s with
  | nil => simp
  | cons a l ih =>
    simp only [List.foldl_cons, ih]
    simp

/-- `learnWithClaims` touches only: slots. -/
@[simp] theorem learnWithClaims_keeps (s : State) :
    (learnWithClaims s).station = s.station ∧ (learnWithClaims s).cause = s.cause
      ∧ (learnWithClaims s).stationCode = s.stationCode ∧ (learnWithClaims s).addrCode = s.addrCode
      ∧ (learnWithClaims s).profile = s.profile ∧ (learnWithClaims s).loader = s.loader
      ∧ (learnWithClaims s).lif = s.lif ∧ (learnWithClaims s).owner = s.owner
      ∧ (learnWithClaims s).chans = s.chans ∧ (learnWithClaims s).soft = s.soft
      ∧ (learnWithClaims s).inputs = s.inputs ∧ (learnWithClaims s).host = s.host
      ∧ (learnWithClaims s).patterns = s.patterns ∧ (learnWithClaims s).conds = s.conds
      ∧ (learnWithClaims s).blink = s.blink ∧ (learnWithClaims s).journal = s.journal
      ∧ (learnWithClaims s).port = s.port ∧ (learnWithClaims s).pins = s.pins
      ∧ (learnWithClaims s).freeIndex = s.freeIndex ∧ (learnWithClaims s).pending = s.pending := by
  unfold learnWithClaims
  simp

/-- `startOwnedChannels` touches only: chans. -/
@[simp] theorem startOwnedChannels_keeps (s : State) :
    (startOwnedChannels s).station = s.station ∧ (startOwnedChannels s).cause = s.cause
      ∧ (startOwnedChannels s).stationCode = s.stationCode
      ∧ (startOwnedChannels s).addrCode = s.addrCode ∧ (startOwnedChannels s).profile = s.profile
      ∧ (startOwnedChannels s).loader = s.loader ∧ (startOwnedChannels s).lif = s.lif
      ∧ (startOwnedChannels s).owner = s.owner ∧ (startOwnedChannels s).slots = s.slots
      ∧ (startOwnedChannels s).soft = s.soft ∧ (startOwnedChannels s).inputs = s.inputs
      ∧ (startOwnedChannels s).host = s.host ∧ (startOwnedChannels s).patterns = s.patterns
      ∧ (startOwnedChannels s).conds = s.conds ∧ (startOwnedChannels s).blink = s.blink
      ∧ (startOwnedChannels s).journal = s.journal ∧ (startOwnedChannels s).port = s.port
      ∧ (startOwnedChannels s).pins = s.pins ∧ (startOwnedChannels s).freeIndex = s.freeIndex
      ∧ (startOwnedChannels s).pending = s.pending := by
  unfold startOwnedChannels
  simp

/-- `enterActive` touches only: station, lif. -/
@[simp] theorem enterActive_keeps (s : State) :
    (enterActive s).cause = s.cause ∧ (enterActive s).stationCode = s.stationCode
      ∧ (enterActive s).addrCode = s.addrCode ∧ (enterActive s).profile = s.profile
      ∧ (enterActive s).loader = s.loader ∧ (enterActive s).owner = s.owner
      ∧ (enterActive s).slots = s.slots ∧ (enterActive s).chans = s.chans
      ∧ (enterActive s).soft = s.soft ∧ (enterActive s).inputs = s.inputs
      ∧ (enterActive s).host = s.host ∧ (enterActive s).patterns = s.patterns
      ∧ (enterActive s).conds = s.conds ∧ (enterActive s).blink = s.blink
      ∧ (enterActive s).journal = s.journal ∧ (enterActive s).port = s.port
      ∧ (enterActive s).pins = s.pins ∧ (enterActive s).freeIndex = s.freeIndex
      ∧ (enterActive s).pending = s.pending := by
  unfold enterActive
  dsimp only
  (repeat' split) <;> simp

/-- `enterObserver` touches only: station, lif. -/
@[simp] theorem enterObserver_keeps (s : State) :
    (enterObserver s).cause = s.cause ∧ (enterObserver s).stationCode = s.stationCode
      ∧ (enterObserver s).addrCode = s.addrCode ∧ (enterObserver s).profile = s.profile
      ∧ (enterObserver s).loader = s.loader ∧ (enterObserver s).owner = s.owner
      ∧ (enterObserver s).slots = s.slots ∧ (enterObserver s).chans = s.chans
      ∧ (enterObserver s).soft = s.soft ∧ (enterObserver s).inputs = s.inputs
      ∧ (enterObserver s).host = s.host ∧ (enterObserver s).patterns = s.patterns
      ∧ (enterObserver s).conds = s.conds ∧ (enterObserver s).blink = s.blink
      ∧ (enterObserver s).journal = s.journal ∧ (enterObserver s).port = s.port
      ∧ (enterObserver s).pins = s.pins ∧ (enterObserver s).freeIndex = s.freeIndex
      ∧ (enterObserver s).pending = s.pending := by
  unfold enterObserver
  simp

/-- `leaveListen` touches only: station, lif, owner, slots, patterns, chans. -/
@[simp] theorem leaveListen_keeps (s : State) :
    (leaveListen s).cause = s.cause ∧ (leaveListen s).stationCode = s.stationCode
      ∧ (leaveListen s).addrCode = s.addrCode ∧ (leaveListen s).profile = s.profile
      ∧ (leaveListen s).loader = s.loader ∧ (leaveListen s).soft = s.soft
      ∧ (leaveListen s).inputs = s.inputs ∧ (leaveListen s).host = s.host
      ∧ (leaveListen s).conds = s.conds ∧ (leaveListen s).blink = s.blink
      ∧ (leaveListen s).journal = s.journal ∧ (leaveListen s).port = s.port
      ∧ (leaveListen s).pins = s.pins ∧ (leaveListen s).freeIndex = s.freeIndex
      ∧ (leaveListen s).pending = s.pending := by
  unfold leaveListen
  dsimp only
  (repeat' split) <;> simp

/-- `completeCensus` touches only: station, lif, owner, slots, patterns, chans, journal, conds. -/
@[simp] theorem completeCensus_keeps (s : State) :
    (completeCensus s).cause = s.cause ∧ (completeCensus s).stationCode = s.stationCode
      ∧ (completeCensus s).addrCode = s.addrCode ∧ (completeCensus s).profile = s.profile
      ∧ (completeCensus s).loader = s.loader ∧ (completeCensus s).soft = s.soft
      ∧ (completeCensus s).inputs = s.inputs ∧ (completeCensus s).host = s.host
      ∧ (completeCensus s).blink = s.blink ∧ (completeCensus s).port = s.port
      ∧ (completeCensus s).pins = s.pins ∧ (completeCensus s).freeIndex = s.freeIndex
      ∧ (completeCensus s).pending = s.pending := by
  unfold completeCensus
  simp

/-- `censusFrame` touches only: station, lif, owner, slots, patterns, chans, journal, conds. -/
@[simp] theorem censusFrame_keeps (s : State) :
    (censusFrame s).cause = s.cause ∧ (censusFrame s).stationCode = s.stationCode
      ∧ (censusFrame s).addrCode = s.addrCode ∧ (censusFrame s).profile = s.profile
      ∧ (censusFrame s).loader = s.loader ∧ (censusFrame s).soft = s.soft
      ∧ (censusFrame s).inputs = s.inputs ∧ (censusFrame s).host = s.host
      ∧ (censusFrame s).blink = s.blink ∧ (censusFrame s).port = s.port
      ∧ (censusFrame s).pins = s.pins ∧ (censusFrame s).freeIndex = s.freeIndex
      ∧ (censusFrame s).pending = s.pending := by
  unfold censusFrame
  dsimp only
  (repeat' split) <;> simp

/-- `endVoid` touches only: lif, slots, freeIndex, journal, conds, chans. -/
@[simp] theorem endVoid_keeps (s : State) :
    (endVoid s).station = s.station ∧ (endVoid s).cause = s.cause
      ∧ (endVoid s).stationCode = s.stationCode ∧ (endVoid s).addrCode = s.addrCode
      ∧ (endVoid s).profile = s.profile ∧ (endVoid s).loader = s.loader
      ∧ (endVoid s).owner = s.owner ∧ (endVoid s).soft = s.soft ∧ (endVoid s).inputs = s.inputs
      ∧ (endVoid s).host = s.host ∧ (endVoid s).patterns = s.patterns ∧ (endVoid s).blink = s.blink
      ∧ (endVoid s).port = s.port ∧ (endVoid s).pins = s.pins ∧ (endVoid s).pending = s.pending := by
  unfold endVoid eitherOrder
  dsimp only
  (repeat' split) <;> simp

end Sys2Proof.Machine
end

