-- ==== Sys2Proof/Laws/Effects.lean ====
section
/-! SUPPORT. What each shared operation does to the state it touches, said once, so that later proofs
cite a lemma and do not unfold the operation. -/

namespace Sys2Proof.Machine

open Sys2Proof

@[simp] theorem Level.opposite_opposite (v : Level) : v.opposite.opposite = v := by cases v <;> rfl

theorem Level.eq_opposite_of_ne {v w : Level} (h : v ≠ w) : v = w.opposite := by
  cases v <;> cases w <;> first | rfl | exact absurd rfl h

@[simp] theorem Level.opposite_ne (v : Level) : v.opposite ≠ v := by cases v <;> decide

/-! ### Channels -/

/-- One channel after a source change (R60). -/
theorem sourceChange_chan (src : Source) (v : Level) (s : State) (c : Fin 16) :
    (sourceChange src v s).chans.get c =
      if (s.profile.chans.get c).source = src then
        (s.chans.get c).take (v.through (s.profile.chans.get c).invert)
      else s.chans.get c := by
  simp [sourceChange]

/-- A channel change never touches the ownership state, the sent level or the in-flight mark. -/
@[simp] theorem Channel.take_keeps (ch : Channel) (v : Level) :
    (ch.take v).state = ch.state ∧ (ch.take v).sent = ch.sent
      ∧ (ch.take v).inFlight = ch.inFlight ∧ (ch.take v).level = v := by
  unfold Channel.take
  split <;> simp_all

/-- A source change touches no channel's ownership state, sent level or in-flight mark. -/
@[simp] theorem sourceChange_chan_keeps (src : Source) (v : Level) (s : State) (c : Fin 16) :
    ((sourceChange src v s).chans.get c).state = (s.chans.get c).state
      ∧ ((sourceChange src v s).chans.get c).sent = (s.chans.get c).sent
      ∧ ((sourceChange src v s).chans.get c).inFlight = (s.chans.get c).inFlight := by
  rw [sourceChange_chan]
  split <;> simp

/-- The pending lists of R63. -/
def LawfulList (sent : Level) (l : List Level) : Prop :=
  l = [] ∨ l = [sent.opposite] ∨ l = [sent.opposite, sent]

/-- The queue rule of R62 keeps the law of R63. -/
theorem pendingAfter_lawful {sent : Level} {l : List Level} (h : LawfulList sent l) (v : Level) :
    LawfulList sent (pendingAfter sent l v) := by
  rcases h with rfl | rfl | rfl <;> cases sent <;> cases v <;>
    simp [pendingAfter, target, LawfulList, Level.opposite]

/-- After the queue rule the target is the new level (R63). -/
theorem target_pendingAfter {sent : Level} {l : List Level} (h : LawfulList sent l) (v : Level) :
    target sent (pendingAfter sent l v) = v := by
  rcases h with rfl | rfl | rfl <;> cases sent <;> cases v <;>
    simp [pendingAfter, target, Level.opposite]

/-- The queue rule never removes a head (R62, R65). -/
theorem head_pendingAfter {sent : Level} {l : List Level} (h : l ≠ []) (v : Level) :
    (pendingAfter sent l v).head? = l.head? := by
  match l, h with
  | [a], _ => unfold pendingAfter; split <;> rfl
  | a :: b :: l, _ => unfold pendingAfter; split <;> rfl

/-! ### Journal -/

/-- A record is stored while fewer than 32 are held (R140, R141). -/
theorem generate_stores (body : RecordBody) (s : State) (h : s.journal.records.length < 32) :
    generate body s = s.setJournal
      { s.journal with
        records := s.journal.records ++
          [{ seq := s.journal.seq, body := body,
             lost := if s.journal.lost = 0 then none else some s.journal.lost }]
        seq := s.journal.seq + 1
        lost := 0 } := by
  exact if_pos h

/-- A record is counted lost while 32 are held, and JOURNAL_LOST is set (R141). -/
theorem generate_loses (body : RecordBody) (s : State) (h : ¬ s.journal.records.length < 32) :
    generate body s =
      setCond condJournalLost
        (s.setJournal
          { s.journal with seq := s.journal.seq + 1, lost := s.journal.lost + 1 }) := by
  exact if_neg h

/-- Condition latches only get set by a setter (R118). -/
theorem setCond_conds (c : Fin 7) (s : State) : (setCond c s).conds = put s.conds c true := by
  unfold setCond
  split
  · rename_i h
    refine tab_ext fun i => ?_
    rw [get_put]
    split
    · rename_i e
      rw [← e]
      exact h
    · rfl
  · split <;> simp

/-! ### Transitions -/

/-- One slot after a receive record is applied (R43). -/
@[simp] theorem applyFrame_slot (s : State) (k : Fin 48) :
    (applyFrame s).slots.get k =
      applySlot (ownedSlot s k) (s.lif.presence.get k) (s.lif.level.get k) (s.slots.get k) := by
  unfold applyFrame
  dsimp only
  split <;> simp [appliedSlots]

/-- A latch step touches one slot's latch (R52). -/
theorem latchStep_slot (t : Transition) (s : State) (k : Fin 48) :
    (latchStep t s).slots.get k =
      { s.slots.get k with
        latch := (s.slots.get k).latch
          || (decide (t.slot = k) && (s.profile.slots.get t.slot).kind.marks t.rises) } := by
  unfold latchStep
  split
  · rename_i h
    by_cases e : t.slot = k
    · subst e
      simp [h]
    · simp [get_put, e]
  · rename_i h
    simp [h]

/-- Delivery touches one slot's latch (R46, R52). -/
theorem deliver_slots (t : Transition) (s : State) : (deliver t s).slots = (latchStep t s).slots := by
  simp [deliver]

/-! ### Steps -/

/-- A step with a command at the front runs it on the queue's rest. -/
theorem step_cons (s : State) (c : Instr) (rest : List Instr) (h : s.pending = c :: rest) :
    step s = exec c (s.setPending rest) := by
  simp [step, h]

/-- A step on an empty queue changes nothing. -/
theorem step_nil (s : State) (h : s.pending = []) : step s = .next s := by
  simp [step, h]

end Sys2Proof.Machine
end

