-- ==== Sys2Proof/Laws/Image.lean ====
section
/-! SUPPORT. When each part of a profile's image is read, and what as: one equivalence for each decoder of
Machine/Image.lean, in the words of the statements. -/

namespace Sys2Proof.Machine

open Sys2Proof

theorem fieldOf_lt (b : Byte) (lo len : Nat) : fieldOf b lo len < 2 ^ len :=
  Nat.mod_lt _ (Nat.two_pow_pos len)

/-- A table is read exactly when every entry is. -/
theorem tabOption_eq_some {α : Type} {n : Nat} {d : α} {f : Fin n → Option α} {v : Vector α n} :
    tabOption d f = some v ↔ ∀ i, f i = some (v.get i) := by
  unfold tabOption
  constructor
  · intro h i
    split at h
    · next hall =>
      obtain ⟨a, ha⟩ := Option.isSome_iff_exists.mp (List.all_eq_true.mp hall i (List.mem_finRange i))
      cases h
      simp [ha]
    · cases h
  · intro h
    rw [if_pos (List.all_eq_true.mpr fun i _ => by simp [h i])]
    congr 1
    refine Vector.ext fun i hi => ?_
    have := congrArg (Option.getD · d) (h ⟨i, hi⟩)
    simpa [tab, Vector.get_eq_getElem] using this

/-- A list is read exactly when every entry is. -/
theorem listOption_eq_some {α : Type} {l : List (Option α)} {as : List α} :
    listOption l = some as ↔ l = as.map some := by
  induction l generalizing as with
  | nil => cases as <;> simp [listOption]
  | cons x xs ih =>
    cases x with
    | none => cases as <;> simp [listOption]
    | some a =>
      cases h : listOption xs with
      | none =>
        have : ∀ bs : List α, xs ≠ bs.map some := fun bs hb => by simp [ih.mpr hb] at h
        cases as <;> simp [listOption, h, this]
      | some bs =>
        obtain rfl := ih.mp h
        cases as with
        | nil => simp [listOption, h]
        | cons b cs =>
          have hinj := (List.map_injective_iff.mpr (Option.some_injective α)).eq_iff (a := bs) (b := cs)
          simp [listOption, h, hinj]

theorem index_eq_some {n k : Nat} {i : Fin n} : index n k = some i ↔ k = i.val := by
  unfold index
  split
  · simp [Fin.ext_iff]
  · next h => simp; omega

/-- A slot settings byte (section 11.2). -/
theorem decodeSlot_eq_some {b : Byte} {cfg : SlotCfg} :
    decodeSlot b = some cfg ↔ SlotPasses b ∧ SlotReads b cfg := by
  have h : fieldOf b 0 3 < 8 := fieldOf_lt b 0 3
  unfold decodeSlot SlotPasses SlotReads
  change (match fieldOf b 0 3 with | 0 => _ | 1 => _ | 2 => _ | 3 => _ | 4 => _ | _ => _) = _ ↔ _
  generalize fieldOf b 0 3 = k at *
  interval_cases k <;> simp [eq_comm]

theorem decodeSource_eq_some {kind idx : Nat} {src : Source} :
    decodeSource kind idx = some src ↔ NamesSource kind idx ∧ SourceReads kind idx src := by
  unfold decodeSource NamesSource
  split <;> cases src <;>
    simp [SourceReads, index_eq_some, Option.map_eq_some_iff, NamesSource] <;>
    first | exact fun h => h ▸ Fin.isLt _ | omega | tauto

theorem sourceReads_unique {kind idx : Nat} {x y : Source}
    (hx : SourceReads kind idx x) (hy : SourceReads kind idx y) : x = y := by
  cases x <;> cases y <;> simp only [SourceReads, NamesSource] at hx hy <;>
    first
    | rfl
    | (congr 1 <;> first | exact Fin.ext (by omega) | exact BitVec.eq_of_toNat_eq (by omega))
    | omega

/-- Codes that name a source are the codes of one. -/
theorem namesSource_reads {kind idx : Nat} (h : NamesSource kind idx) : ∃ x, SourceReads kind idx x := by
  obtain ⟨hk, hi⟩ | ⟨hk, hi⟩ | ⟨hk, hi⟩ | hk := h
  · exact ⟨.input ⟨idx, hi⟩, hk, rfl⟩
  · exact ⟨.soft ⟨idx, hi⟩, hk, rfl⟩
  · exact ⟨.pattern ⟨idx, hi⟩, hk, rfl⟩
  · exact ⟨.conditions, hk⟩

/-- The two bytes of a channel (section 11.2). -/
theorem decodeChan_eq_some {b0 b1 : Byte} {cfg : ChanCfg} :
    decodeChan b0 b1 = some cfg ↔ ChanPasses b0 b1 ∧ ChanReads b0 b1 cfg := by
  have hk : fieldOf b1 0 3 < 8 := fieldOf_lt b1 0 3
  have hi : fieldOf b1 4 4 < 16 := fieldOf_lt b1 4 4
  have hslot (k : Fin 48) : index 48 (bits b0 0 6) = some k ↔ fieldOf b0 0 6 = k.val := index_eq_some
  have hsrc (x : Source) : decodeSource (bits b1 0 3) (bits b1 4 4) = some x ↔
      NamesSource (fieldOf b1 0 3) (fieldOf b1 4 4) ∧ SourceReads (fieldOf b1 0 3) (fieldOf b1 4 4) x :=
    decodeSource_eq_some
  obtain ⟨enable, slot, source, invert⟩ := cfg
  unfold decodeChan ChanPasses ChanReads
  split
  · next k x hk' hx =>
    rw [hslot] at hk'; rw [hsrc] at hx
    simp only [Option.some.injEq, ChanCfg.mk.injEq]
    constructor
    · rintro ⟨rfl, rfl, rfl, rfl⟩
      exact ⟨⟨hk' ▸ k.isLt, fun _ => hx.1⟩, hk'.symm, rfl, rfl, hx.2⟩
    · rintro ⟨-, hs, rfl, rfl, hr⟩
      exact ⟨rfl, Fin.ext (hk'.symm.trans hs.symm), sourceReads_unique hx.2 hr, rfl⟩
  · next k hk' hx =>
    rw [hslot] at hk'
    have hn : ¬ NamesSource (fieldOf b1 0 3) (fieldOf b1 4 4) := fun h => by
      obtain ⟨x, hr⟩ := namesSource_reads h
      rw [(hsrc x).mpr ⟨h, hr⟩] at hx; cases hx
    have hr : SourceReads (fieldOf b1 0 3) (fieldOf b1 4 4)
        (.unnamed (BitVec.ofNat 3 (bits b1 0 3)) (BitVec.ofNat 4 (bits b1 4 4))) :=
      ⟨hn, (Nat.mod_eq_of_lt hk).symm, (Nat.mod_eq_of_lt hi).symm⟩
    split
    · next h7 => simp [h7, hn]
    · next h7 =>
      simp only [Option.some.injEq, ChanCfg.mk.injEq]
      constructor
      · rintro ⟨rfl, rfl, rfl, rfl⟩
        exact ⟨⟨hk' ▸ k.isLt, fun h => (h7 h).elim⟩, hk'.symm, rfl, by simpa using h7, hr⟩
      · rintro ⟨-, hs, rfl, rfl, hr'⟩
        exact ⟨by simpa using h7, Fin.ext (hk'.symm.trans hs.symm), sourceReads_unique hr hr', rfl⟩
  · next hk' =>
    have hn : ¬ fieldOf b0 0 6 < 48 := fun h => by
      rw [(hslot ⟨_, h⟩).mpr rfl] at hk'; cases hk'
    simp [hn]

/-- An input byte (section 11.2). -/
theorem decodeInput_eq_some {b : Byte} {cfg : InputCfg} :
    decodeInput b = some cfg ↔ InputPasses b ∧ InputReads b cfg := by
  have h : fieldOf b 2 3 < 8 := fieldOf_lt b 2 3
  have h' : fieldOf b 5 2 < 4 := fieldOf_lt b 5 2
  unfold decodeInput InputPasses InputReads
  change (match decodeFilter (fieldOf b 2 3), decodeMode (fieldOf b 5 2) with | some _, some _ => _ | _, _ => _) = _ ↔ _
  generalize fieldOf b 2 3 = k at *
  generalize fieldOf b 5 2 = m at *
  interval_cases k <;> interval_cases m <;>
    simp only [decodeFilter, decodeMode, Option.some.injEq] <;> first | exact ⟨fun e => ⟨⟨by decide, by decide⟩, e.symm⟩, fun e => e.2.symm⟩ | simp

theorem decodeTime_eq_some {b : Byte} {n : Nat} : decodeTime b = some n ↔ 1 ≤ b.toNat ∧ b.toNat = n := by
  unfold decodeTime
  split <;> simp <;> omega

/-- The four bytes of a step below the step count (R92). -/
theorem decodeStep_eq_some {kind slot window time : Byte} {st : Step} :
    decodeStep kind slot window time = some st ↔
      StepPasses kind.toNat slot.toNat time.toNat
        ∧ StepReads kind.toNat slot.toNat window.toNat time.toNat st := by
  have hold : ∀ w, (match index 48 slot.toNat, decodeTime time with
      | some k, some t => some (Step.hold k w t) | _, _ => none) = some st ↔
        (slot.toNat < 48 ∧ 1 ≤ time.toNat) ∧ StepReads 3 slot.toNat w time.toNat st := by
    intro w
    split
    · next k t hk ht =>
      rw [index_eq_some] at hk; rw [decodeTime_eq_some] at ht
      cases st <;> simp [StepReads, Fin.ext_iff]; omega
    · next hn =>
      constructor
      · intro h; cases h
      · rintro ⟨⟨hs, ht⟩, h⟩
        exact (hn ⟨_, hs⟩ time.toNat (index_eq_some.mpr rfl) (decodeTime_eq_some.mpr ⟨ht, rfl⟩)).elim
  unfold decodeStep StepPasses
  split
  case h_4 hk => exact (hold _).trans (by rw [hk]; simp)
  all_goals
    cases st <;> simp_all [StepReads, index_eq_some, decodeTime_eq_some, Option.map_eq_some_iff]

/-- The 26 bytes of a pattern (R92, section 11.2). -/
theorem decodePattern_eq_some {byte : Nat → Byte} {cfg : PatCfg} :
    decodePattern byte = some cfg ↔ PatternPasses byte ∧ PatternReads byte cfg := by
  obtain ⟨strict, action, attn, wake, journal, steps⟩ := cfg
  have hact : decodeAction (bits (byte 0) 4 2) =
      (match fieldOf (byte 0) 4 2 with | 0 => .none | 1 => .pulse | 2 => .toggle | _ => .set) := rfl
  have hsteps : ((List.range (fieldOf (byte 0) 0 3)).map fun k =>
        decodeStep (byte (2 + 4 * k)) (byte (3 + 4 * k)) (byte (4 + 4 * k)) (byte (5 + 4 * k)))
        = steps.map some ↔
      (∀ k, k < fieldOf (byte 0) 0 3 →
        StepPasses (byte (2 + 4 * k)).toNat (byte (3 + 4 * k)).toNat (byte (5 + 4 * k)).toNat)
      ∧ steps.length = fieldOf (byte 0) 0 3
      ∧ ∀ k st, steps[k]? = some st →
        StepReads (byte (2 + 4 * k)).toNat (byte (3 + 4 * k)).toNat (byte (4 + 4 * k)).toNat
          (byte (5 + 4 * k)).toNat st := by
    constructor
    · intro h
      have hlen : steps.length = fieldOf (byte 0) 0 3 := by simpa using (congrArg List.length h).symm
      have hget : ∀ k (hk : k < steps.length),
          decodeStep (byte (2 + 4 * k)) (byte (3 + 4 * k)) (byte (4 + 4 * k)) (byte (5 + 4 * k))
            = some steps[k] := by
        intro k hk
        have := congrArg (fun l : List (Option Step) => l[k]?) h
        simpa [hlen ▸ hk, hk] using this
      refine ⟨fun k hk => ?_, hlen, fun k st hst => ?_⟩
      · exact (decodeStep_eq_some.mp (hget k (hlen ▸ hk))).1
      · obtain ⟨hk, rfl⟩ := List.getElem?_eq_some_iff.mp hst
        exact (decodeStep_eq_some.mp (hget k hk)).2
    · rintro ⟨hp, hlen, hr⟩
      refine List.ext_getElem (by simp [hlen]) fun k h1 h2 => ?_
      have hk : k < steps.length := by simpa using h2
      simp only [List.getElem_map, List.getElem_range]
      exact decodeStep_eq_some.mpr ⟨hp k (hlen ▸ hk), hr k _ (List.getElem?_eq_getElem hk)⟩
  unfold PatternPasses PatternReads
  have hdef : decodePattern byte = some ⟨strict, action, attn, wake, journal, steps⟩ ↔
      fieldOf (byte 0) 0 3 ≤ 6 ∧
        ((List.range (fieldOf (byte 0) 0 3)).map fun k =>
          decodeStep (byte (2 + 4 * k)) (byte (3 + 4 * k)) (byte (4 + 4 * k)) (byte (5 + 4 * k)))
          = steps.map some
        ∧ strict = !(byte 0).getLsbD 3 ∧ action = decodeAction (bits (byte 0) 4 2)
        ∧ attn = (byte 1).getLsbD 0 ∧ wake = (byte 1).getLsbD 1 ∧ journal = (byte 1).getLsbD 2 := by
    unfold decodePattern
    change (if 6 < fieldOf (byte 0) 0 3 then none else _) = _ ↔ _
    split
    · simp; omega
    · next h =>
      simp only [Option.map_eq_some_iff, listOption_eq_some, PatCfg.mk.injEq]
      constructor
      · rintro ⟨_, hl, rfl, rfl, rfl, rfl, rfl, rfl⟩
        exact ⟨by omega, hl, rfl, rfl, rfl, rfl, rfl⟩
      · rintro ⟨-, hl, rfl, rfl, rfl, rfl, rfl⟩
        exact ⟨_, hl, rfl, rfl, rfl, rfl, rfl, rfl⟩
  rw [hdef, hsteps, hact]
  tauto

theorem decodeCond_eq_some {kind operand : Nat} {c : Cond} :
    decodeCond kind operand = some c ↔
      (kind = 0 ∨ kind = 6 ∨ (kind = 1 ∨ kind = 2) ∧ operand < 48 ∨ kind = 3 ∧ operand < 8
        ∨ kind = 4 ∧ operand < 7 ∨ kind = 5 ∧ operand < 3)
      ∧ CondReads kind operand c := by
  unfold decodeCond
  split
  case h_6 =>
    unfold decodeHostOperand
    split <;> cases c <;> simp [CondReads] <;> (try split) <;> simp_all
  all_goals
    cases c <;> simp [CondReads, index_eq_some, Option.map_eq_some_iff] <;>
      first | exact fun h => h ▸ Fin.isLt _ | omega | tauto

/-- The two bytes of an indicator rule entry (R130). -/
theorem decodeRule_eq_some {b0 b1 : Byte} {r : Rule} :
    decodeRule b0 b1 = some r ↔ RulePasses b0 b1 ∧ RuleReads b0 b1 r := by
  obtain ⟨cond, display⟩ := r
  have hboth : decodeRule b0 b1 = some ⟨cond, display⟩ ↔
      decodeCond (bits b0 0 3) b1.toNat = some cond ∧ decodeDisplay (bits b0 3 3) = some display := by
    unfold decodeRule
    split <;> simp_all
  have hc (c : Cond) : decodeCond (bits b0 0 3) b1.toNat = some c ↔ _ := decodeCond_eq_some
  have hd (d : Display) : decodeDisplay (bits b0 3 3) = some d ↔ fieldOf b0 3 3 ≤ 5 ∧ d =
      (match fieldOf b0 3 3 with
        | 0 => .off | 1 => .on | 2 => .slow | 3 => .medium | 4 => .fast | _ => .flash) := by
    have h : fieldOf b0 3 3 < 8 := fieldOf_lt b0 3 3
    change decodeDisplay (fieldOf b0 3 3) = some d ↔ _
    generalize fieldOf b0 3 3 = k at *
    interval_cases k <;> simp [decodeDisplay, eq_comm]
  rw [hboth, hc, hd]
  unfold RulePasses RuleReads
  exact ⟨fun ⟨⟨h1, h2⟩, h3, h4⟩ => ⟨⟨h1, h3⟩, h2, h4⟩, fun ⟨⟨h1, h3⟩, h2, h4⟩ => ⟨⟨h1, h2⟩, h3, h4⟩⟩

end Sys2Proof.Machine
end

