-- ==== Sys2Proof/Laws/Sources.lean ====
section
/-! SUPPORT. What each mover of a source does to that source and to the channels that name it, in the
words of the statements: the levels the source moves through, one after another. -/

namespace Sys2Proof.Machine

open Sys2Proof

@[simp] theorem Channel.following_nil (ch : Channel) (invert : Bool) (old : Level) :
    ch.following invert old [] = ch := rfl

@[simp] theorem Channel.following_cons (ch : Channel) (invert : Bool) (old v : Level)
    (vs : List Level) :
    ch.following invert old (v :: vs) =
      (if v = old then ch else ch.take (v.through invert)).following invert v vs := rfl

@[simp] theorem lastLevel_nil (old : Level) : lastLevel old [] = old := rfl

@[simp] theorem lastLevel_cons (old v : Level) (vs : List Level) :
    lastLevel old (v :: vs) = lastLevel v vs := by
  cases vs <;> simp [lastLevel, List.getLast?_cons]

/-- Moves through two lists of levels are one move through both, in order. -/
theorem Channel.following_append (ch : Channel) (invert : Bool) (old : Level) (vs ws : List Level) :
    ch.following invert old (vs ++ ws) =
      (ch.following invert old vs).following invert (lastLevel old vs) ws := by
  induction vs generalizing ch old with
  | nil => rfl
  | cons v vs ih => simp [ih]

/-- Following keeps the ownership state, the sent level and the in-flight mark. -/
@[simp] theorem Channel.following_keeps (ch : Channel) (invert : Bool) (old : Level)
    (vs : List Level) :
    (ch.following invert old vs).state = ch.state ∧ (ch.following invert old vs).sent = ch.sent
      ∧ (ch.following invert old vs).inFlight = ch.inFlight := by
  induction vs generalizing ch old with
  | nil => simp
  | cons v vs ih =>
    rw [Channel.following_cons]
    split <;> simp [ih]

/-- One channel after a soft source takes a level (R72). -/
theorem setSoftLevel_chan (k : Fin 4) (v : Level) (s : State) (c : Fin 16) :
    (setSoftLevel k v s).chans.get c =
      if (s.profile.chans.get c).source = .soft k then
        (s.chans.get c).following (s.profile.chans.get c).invert (s.soft.get k) [v]
      else s.chans.get c := by
  by_cases h : s.soft.get k = v
  · simp [setSoftLevel, h]
  · simp [setSoftLevel, h, Ne.symm h, sourceChange_chan]
    rfl

/-- One channel after an input's output takes a level (R84). -/
theorem setInputOutput_chan (i : Fin 12) (v : Level) (s : State) (c : Fin 16) :
    (setInputOutput i v s).chans.get c =
      if (s.profile.chans.get c).source = .input i then
        (s.chans.get c).following (s.profile.chans.get c).invert (s.inputs.get i).output [v]
      else s.chans.get c := by
  by_cases h : (s.inputs.get i).output = v
  · simp [setInputOutput, h]
  · simp [setInputOutput, h, Ne.symm h, sourceChange_chan]
    rfl

/-- An input's record after its output takes a level (R84). -/
theorem setInputOutput_input (i j : Fin 12) (v : Level) (s : State) :
    (setInputOutput i v s).inputs.get j =
      if j = i then { s.inputs.get i with output := v } else s.inputs.get j := by
  by_cases h : (s.inputs.get i).output = v
  · subst h
    by_cases e : j = i
    · subst e; simp [setInputOutput]
    · simp [setInputOutput, e]
  · simp [setInputOutput, h, get_put, eq_comm]

/-- One channel after a pattern's output takes a level (R75, R110). -/
theorem setPatternOutput_chan (p : Fin 8) (v : Level) (s : State) (c : Fin 16) :
    (setPatternOutput p v s).chans.get c =
      if (s.profile.chans.get c).source = .pattern p then
        (s.chans.get c).following (s.profile.chans.get c).invert (s.patterns.get p).output [v]
      else s.chans.get c := by
  by_cases h : (s.patterns.get p).output = v
  · simp [setPatternOutput, h]
  · simp [setPatternOutput, h, Ne.symm h, sourceChange_chan]
    rfl

/-- A pattern's record after its output takes a level (R75, R110). -/
theorem setPatternOutput_pattern (p q : Fin 8) (v : Level) (s : State) :
    (setPatternOutput p v s).patterns.get q =
      if q = p then { s.patterns.get p with output := v } else s.patterns.get q := by
  by_cases h : (s.patterns.get p).output = v
  · subst h
    by_cases e : q = p
    · subst e; simp [setPatternOutput]
    · simp [setPatternOutput, e]
  · simp [setPatternOutput, h, get_put, eq_comm]

/-- One channel after a setter reaches a condition latch (R74). -/
theorem setCond_chan (d : Fin 7) (s : State) (c : Fin 16) :
    (setCond d s).chans.get c = s.conditionsMove [.asserted] c (s.chans.get c) := by
  have any_of_latch : s.conds.get d = true → anyCond s = true := fun h =>
    List.any_eq_true.mpr ⟨d, by simp, h⟩
  by_cases h : s.conds.get d = true
  · simp [setCond, h, State.conditionsMove, sourceLevel, any_of_latch h]
  · by_cases a : anyCond s = true
    · simp [setCond, h, a, State.conditionsMove, sourceLevel]
    · simp [setCond, h, a, State.conditionsMove, sourceLevel, sourceChange_chan]
      rfl

/-- One channel after latches are cleared (R74, R120). -/
theorem clearConds_chan (mask : Vector Bool 7) (s : State) (c : Fin 16) :
    (clearConds mask s).chans.get c =
      if anyCond s = true ∧ anyCond (clearConds mask s) = false then
        s.conditionsMove [.released] c (s.chans.get c)
      else s.chans.get c := by
  have same : anyCond (clearConds mask s)
      = anyCond (s.setConds <| tab fun c =>
        s.conds.get c && (!mask.get c || (decide (c = condLineStuck) && stuckHeld s))) := by
    unfold clearConds
    dsimp only
    split <;> simp [anyCond]
  rw [same]
  unfold clearConds
  dsimp only
  split
  · rename_i h
    simp only [Bool.and_eq_true, Bool.not_eq_true'] at h
    rw [if_pos h]
    simp [State.conditionsMove, sourceLevel, h.1, sourceChange_chan]
    rfl
  · rename_i h
    simp only [Bool.and_eq_true, Bool.not_eq_true'] at h
    rw [if_neg h]
    simp

/-! ### Records and steps -/

/-- The journal after a record is generated (R139 to R141). -/
theorem generate_journal (body : RecordBody) (s : State) :
    (generate body s).journal = s.journal.taking body := by
  by_cases h : s.journal.records.length < 32
  · simp [generate_stores body s h, Journal.taking, h]
  · simp [generate_loses body s h, Journal.taking, h]

/-- The condition latches after a record is generated (R141). -/
theorem generate_conds (body : RecordBody) (s : State) :
    (generate body s).conds =
      if s.journal.records.length < 32 then s.conds else put s.conds condJournalLost true := by
  by_cases h : s.journal.records.length < 32
  · simp [generate_stores body s h, h]
  · simp [generate_loses body s h, h, setCond_conds]

/-- One channel after a record is generated (R74, R141). -/
theorem generate_chan (body : RecordBody) (s : State) (c : Fin 16) :
    (generate body s).chans.get c =
      if s.journal.records.length < 32 then s.chans.get c
      else s.conditionsMove [.asserted] c (s.chans.get c) := by
  by_cases h : s.journal.records.length < 32
  · simp [generate_stores body s h, h]
  · rw [generate_loses body s h, setCond_chan, if_neg h]
    rfl

/-- A pattern that enters a step it has stands as R94 says, and nothing else changes. -/
theorem enterStep_entersOnly (p : Fin 8) (k : Nat) (st : Step) (s : State)
    (h : (s.profile.patterns.get p).steps[k]? = some st) :
    EntersOnly s p k st (enterStep p k s) := by
  refine ⟨by simp [enterStep, State.setPatterns], ?_, by simp [enterStep], by simp [enterStep], ?_⟩
  · simp only [enterStep, h, State.setPatterns_patterns, get_put, if_true]
    cases st <;> simp only [Entered, entryTimers, windowTimer] <;> (repeat' split) <;> simp_all
  · intro q hq
    simp [enterStep, get_put, Ne.symm hq]

end Sys2Proof.Machine
end

