-- ==== Sys2Proof/Tests/Slice0.lean ====
section
/-! SUPPORT. The model's own tests: the check of well-formed commands, one step of each command on a small
state with results taken from the manual's rules, and for each statement a state and operands that meet
its hypotheses. -/

namespace Sys2Proof.Tests

set_option Elab.async false

open Sys2Proof Sys2Proof.Machine

/-! ### Small states -/

/-- The state a command leaves. -/
def after (c : Instr) (s : State) : State :=
  match exec c s with
  | .next t => t
  | _ => s

/-- A station in a station state, every block at its reset values. -/
def stationIn (st : Station) : State := { State.reset with station := st }

/-- A station whose line interface stands in a line state, at a frame position. -/
def onLineAt (st : Station) (line : LineState) (pos : Nat) : State :=
  { stationIn st with lif := { Lif.default with line := line, pos := pos } }

/-- A station at the CHECK cell whose frame showed slot 3 owned and ASSERTED. -/
def seen3 (st : Station) : State :=
  { stationIn st with
    lif :=
      { Lif.default with
        line := .frame, pos := 101
        presence := tab fun k => k = 3, level := tab fun k => k = 3 } }

/-- A station at the CHECK cell of a frame that showed the named slots owned, some of them
ASSERTED. -/
def heard (owned asserted : Fin 48 → Bool) (s : State) : State :=
  { s with
    lif := { Lif.default with line := .frame, pos := 101, presence := tab owned, level := tab asserted } }

/-- An OWNED channel with a pending ASSERTED. -/
def risingChannel (inFlight : Bool) : Channel :=
  { state := .owned, level := .asserted, sent := .released, pending := [.asserted]
    inFlight := inFlight }

/-- A profile whose channel 0 is bound to slot 3 and soft source 1, whose input 1 is MAIN without a
filter, whose slot 3 is journalled with a LEVEL latch, and whose pattern 0 has the given steps. -/
def profileWith (strict : Bool) (action : Action) (steps : List Step) : Profile :=
  { fallbackProfile with
    slots := put fallbackProfile.slots 3 { kind := .level, attn := true, wake := false, journal := true }
    chans := put fallbackProfile.chans 0 { enable := true, slot := 3, source := .soft 1, invert := false }
    inputs :=
      put fallbackProfile.inputs 1
        { polarity := .activeHigh, domain := .main, filterMs := 0, mode := .follow }
    patterns :=
      put fallbackProfile.patterns 0
        { strict := strict, action := action, attn := false, wake := false, journal := true
          steps := steps } }

/-- An ACTIVE station on that profile, with its pattern record and slot 3's level. -/
def matching (strict : Bool) (steps : List Step) (r : PatRec) (level3 : Level) : State :=
  { stationIn .active with
    profile := profileWith strict .pulse steps
    patterns := put State.reset.patterns 0 r
    slots := put State.reset.slots 3 { own := .remote, level := level3, latch := false } }

/-- An ACTIVE station whose channel 0 is OWNED with an empty list and follows input 1, a MAIN input
that stands inactive, in the given mode and with the given filter time. -/
def fed (mode : Mode) (filterMs : Nat) : State :=
  let p := profileWith true .none []
  { stationIn .active with
    profile :=
      { p with
        chans := put p.chans 0 { enable := true, slot := 3, source := .input 1, invert := false }
        inputs :=
          put p.inputs 1 { polarity := .activeHigh, domain := .main, filterMs := filterMs, mode := mode } }
    host := { State.reset.host with hpon := .high, hpawake := .high }
    chans := put State.reset.chans 0
      { state := .owned, level := .released, sent := .released, pending := [], inFlight := false } }

/-- A pattern record at a step. -/
def record (k : Nat) (window : Timer) (timer : HoldQuiet) : PatRec :=
  { progress := k, window := window, timer := timer, latch := false, output := .released }

/-- An image of one profile without enabled channels and with quiet interval 5, without its last
byte. -/
def shortProfile : List Byte := (List.replicate 328 0#8).set 1 5#8

/-- A loader in its read. -/
def reading (phase : LoaderPhase) (pos count : Nat) (header retained : List Byte) : State :=
  { stationIn .loading with
    loader :=
      { Loader.default with
        phase := phase, pos := pos, count := count, header := header, retained := retained
        selected := true } }

/-! ### Well-formed commands -/

theorem test_wf_unknown_code : Instr.wf (.unknownRequest 0x77#8 ⟨0x3A#7, []⟩) = true := by decide

theorem test_wf_refuses_known_code : Instr.wf (.unknownRequest 0x05#8 ⟨0x3A#7, [0x00#8]⟩) = false := by decide

theorem test_ill_formed_is_refused :
    exec (.unknownRequest 0x05#8 ⟨0x3A#7, []⟩) (stationIn .active) = .refused .illFormed := rfl

theorem test_request_codes :
    ∀ c : RequestCode, RequestCode.ofByte (RequestCode.byte c) = some c := by
  intro c; cases c <;> rfl

theorem test_no_row_has_bits (nbits w : Nat) : decodeTableWord nbits w = none := rfl

/-! ### One step of each command -/

/-- R148: a supply dip in RESET gives POWER. -/
theorem test_power_on_reset :
    (after .powerOnReset { State.reset with cause := .pin }).cause = .power := by decide

/-- R148: RESET_N in RESET leaves the recorded cause; elsewhere it is PIN. -/
theorem test_pin_reset :
    (after .pinReset State.reset).cause = .power
      ∧ (after .pinReset (stationIn .active)).cause = .pin := by decide

/-- R150, R151: the port's address from the straps, MCS low, and the read command. -/
theorem test_reset_end :
    portAddress (after (.resetEnd 9 3) State.reset) = 0x3D#7
      ∧ mcsPin (after (.resetEnd 9 3) State.reset) = .low
      ∧ (after (.resetEnd 9 3) State.reset).loader.sent = [0x03#8, 0x00#8, 0x00#8] := by decide

/-- R149, R151: the sixth of the 24 bits of 03h 00h 00h is 0, the seventh and the eighth 1, the ninth 0; in
RESET nothing of the port is driven. -/
theorem test_serial_memory_port :
    let t := after (.resetEnd 9 3) State.reset
    (List.map (mdoPin t) [5, 6, 7, 8] = [.low, .high, .high, .low])
      ∧ mckPin t .high = .high ∧ mckPin t .low = .low
      ∧ mdoPin (after .pinReset t) 6 = .undriven ∧ mckPin (after .pinReset t) .high = .undriven
      ∧ mcsPin (after .pinReset t) = .undriven := by decide

/-- Section 11.2: C5h 21h is an enabled inverted channel on slot 5 and soft source 2; 4Eh an ACTIVE_HIGH MAIN
16 ms ONESHOT input. -/
theorem test_image_bits :
    decodeChan 0xC5#8 0x21#8 = some { enable := true, slot := 5, source := .soft 2, invert := true }
      ∧ decodeInput 0x4E#8 =
        some { polarity := .activeHigh, domain := .main, filterMs := 16, mode := .oneshot } := by decide

/-- R152: an absent memory fails the marker check at the second byte. -/
theorem test_image_byte_taken :
    (after (.imageByteTaken 0xFF#8) (reading .header 1 0 [0xFF#8] [])).loader.reason = .badMarker
      ∧ (after (.imageByteTaken 0xFF#8) (reading .header 1 0 [0xFF#8] [])).station = .listen := by
  decide

/-- R3: an edge at gap count 5 of 6 is a start; at 4 it is not, and the gap length becomes 104. -/
theorem test_falling_edge :
    (after .fallingEdge
        { onLineAt .active .gap 0 with
          lif := { Lif.default with line := .gap, gapLen := 6, gapCount := 5 } }).lif.line = .frame
      ∧ (after .fallingEdge
        { onLineAt .active .gap 0 with
          lif := { Lif.default with line := .gap, gapLen := 6, gapCount := 4 } }).lif.gapLen = 104 := by
  decide

/-- R4: runs of 4 and 5 cell times are good, a longer one is a false start. -/
theorem test_start_pattern_end :
    (after (.startPatternEnd 50 .free) (onLineAt .active .frame 3)).lif.pos = 5
      ∧ (after (.startPatternEnd 51 .free) (onLineAt .active .frame 3)).lif.line = .gap := by decide

/-- R43, R36: slot 3 becomes REMOTE and ASSERTED; a REMOTE slot without presence loses its owner. -/
theorem test_frame_end :
    ((after (.frameEnd .free []) (seen3 .active)).slots.get 3).level = .asserted
      ∧ ((after (.frameEnd .free []) (seen3 .active)).slots.get 3).own = .remote := by decide

/-- R46, R48, R97, R142: the match of slot 3's rise stands before slot 5's record, with the stamp of the
frame. -/
theorem test_frame_end_delivers :
    (after (.frameEnd .free [])
      (heard (fun k => k = 3 ∨ k = 5) (fun k => k = 3 ∨ k = 5)
        { matching true [.rise 3 0] (record 0 .stopped .stopped) .released with
          profile :=
            { profileWith true .none [.rise 3 0] with
              slots := tab fun k =>
                { kind := .none, attn := false, wake := false, journal := decide (k = 3 ∨ k = 5) } }
          })).journal.records.map Record.body =
      [.slot 3 .asserted .frame 1, .matched 0 (some 1), .slot 5 .asserted .frame 1] := by
  decide +kernel

/-- R13: a DRIVEN CHECK cell voids the frame. -/
theorem test_frame_end_void :
    (after (.frameEnd .driven []) (seen3 .active)).lif.voidCount = 1
      ∧ ((after (.frameEnd .driven []) (seen3 .active)).slots.get 3).own = .unowned := by decide

/-- R3: the gap is complete at its length. -/
theorem test_gap_complete :
    (after .gapComplete
      { onLineAt .active .gap 0 with
        lif := { Lif.default with line := .gap, gapLen := 6, gapCount := 6 } }).lif.line = .idle := by
  decide

/-- R5: a refresh starts a frame, but not in backoff. -/
theorem test_frame_start :
    drivesLine (after .frameStart
        { stationIn .active with lif := { Lif.default with refresh := true } }) = true
      ∧ drivesLine (after .frameStart
        { stationIn .active with
          lif := { Lif.default with refresh := true, backoff := true } }) = false := by decide

/-- R17: the expiry raises REFRESH and does not restart the timer. -/
theorem test_refresh_timer_expiry :
    (after .refreshTimerExpiry
      { stationIn .active with
        lif := { Lif.default with refreshTimer := .running 10 } }).lif.refresh = true := by decide

/-- R25: the expiry raises CENSUS. -/
theorem test_census_wait_expiry :
    (after .censusWaitExpiry
      { stationIn .listen with
        owner := { State.reset.owner with waitTimer := .running 20 } }).lif.census = true := by decide

/-- R19: the end of backoff leaves the BACKOFF latch as it is. -/
theorem test_backoff_timer_expiry :
    (after .backoffTimerExpiry
      { stationIn .active with
        conds := tab fun c => c = condBackoff
        lif := { Lif.default with backoff := true, backoffTimer := .running 50 } }).conds.get
          condBackoff = true := by decide

/-- R20: LINE_STUCK sets and holds its latch. -/
theorem test_stuck_timer_expiry :
    stuckHeld (after .stuckTimerExpiry
      { stationIn .active with lif := { Lif.default with stuckTimer := .running 2 } }) = true := by
  decide

/-- R21: the way out of LINE_STUCK leads to LINE_IDLE and writes CLEAR. -/
theorem test_recovery_timer_expiry :
    (after .recoveryTimerExpiry
      { stationIn .active with
        lif := { Lif.default with line := .stuck, recoveryTimer := .running 1 } }).journal.records.map
          Record.body = [.line .clear] := by decide

/-- R79: a STANDBY input with a 16 ms filter starts it. -/
theorem test_pin_change :
    ((after (.pinChange 0 .high) (stationIn .listen)).inputs.get 0).timer = .running 16 := by decide

/-- R79, R83: with filter time 0 a ONESHOT activation is a pulse in an empty list. -/
theorem test_pin_change_oneshot :
    ((after (.pinChange 1 .high) (fed .oneshot 0)).chans.get 0).pending = [.asserted, .released] := by
  decide +kernel

/-- R80, R81: a FOLLOW output takes the filtered level. -/
theorem test_filter_timer_expiry :
    ((after (.filterTimerExpiry 0)
      { stationIn .listen with
        inputs := put State.reset.inputs 0
          { raw := .active, timer := .running 16, filtered := .released
            output := .released } }).inputs.get 0).output = .asserted := by decide

/-- R85: a change of HPON starts its 1 ms filter. -/
theorem test_host_power_pin_change :
    (after (.hostPowerPinChange .hpon .high) (stationIn .loading)).host.hponTimer = .running 1 := by
  decide

/-- R85: HPON high with HPAWAKE low is SLEEP. -/
theorem test_host_power_filter_expiry :
    hostPower (after (.hostPowerFilterExpiry .hpon)
      { stationIn .listen with
        pins := { State.reset.pins with hpon := .high }
        host := { State.reset.host with hponTimer := .running 1 } }) = .sleep := by decide

/-- R104: a window expiry resets progress. -/
theorem test_window_timer_expiry :
    ((after (.windowTimerExpiry 0)
      (matching true [.rise 3 0, .fall 3 50] (record 1 (.running 500) .stopped) .asserted)).patterns.get
        0).progress = 0 := by decide

/-- R105, R110: the hold of an ASSERTED slot matches; a PULSE output ends RELEASED. -/
theorem test_hold_timer_expiry :
    ((after (.holdTimerExpiry 0)
      (matching true [.hold 3 0 4] (record 0 .stopped (.hold 40)) .asserted)).patterns.get 0) =
        { progress := 0, window := .stopped, timer := .hold 40, latch := true
          output := .released } := by decide

/-- R106, R109: the record of a quiet match has no stamp. -/
theorem test_quiet_timer_expiry :
    (after (.quietTimerExpiry 0)
      (matching true [.quiet 7] (record 0 .stopped (.quiet 70)) .released)).journal.records.map
        Record.body = [.matched 0 none] := by decide

/-- R134's example: FAST at phase 1100 is lit. -/
theorem test_blink_phase_crossing :
    (after (.blinkPhaseCrossing 1100)
        { stationIn .active with blink := { running := true, phase := 0 } }).blink.phase = 1100
      ∧ litAt .fast 1100 = true ∧ litAt .fast 1125 = false := by decide

/-- Section 11.4: a fresh LISTEN station with an image fault reports station state 1. -/
theorem test_get_status :
    (after (.getStatus ⟨0x3A#7, [0x09#8]⟩) (stationIn .listen)).port.response.map Response.bytes =
      some [0x09#8, 0x00#8, 0x00#8, 0x0E#8, 0x01#8, 0x00#8, 0x00#8, 0x00#8, 0x00#8, 0x10#8, 0x00#8,
        0x00#8, 0x00#8, 0x00#8, 0x00#8, 0x00#8, 0x00#8, 0x00#8] := by decide +kernel

/-- Section 11.4: REMOTE and ASSERTED is 05h. -/
theorem test_get_slots :
    (after (.getSlots ⟨0x3A#7, [0x01#8, 0x03#8, 0x01#8]⟩)
      (matching true [] (record 0 .stopped .stopped) .asserted)).port.response.map Response.data =
        some [0x05#8] := by decide +kernel

/-- Section 11.4: an OWNED channel with one pending level. -/
theorem test_get_channels :
    (after (.getChannels ⟨0x3A#7, [0x01#8, 0x00#8, 0x01#8]⟩)
      { stationIn .active with
        profile := profileWith true .none []
        chans := put State.reset.chans 0 (risingChannel false) }).port.response.map Response.data =
          some [0x03#8, 0x2A#8] := by decide +kernel

/-- R170: eight bytes, in LISTEN all zero. -/
theorem test_get_patterns :
    (after (.getPatterns ⟨0x3A#7, [0x01#8]⟩) (stationIn .listen)).port.response.map Response.data =
      some (List.replicate 8 0x00#8) := by decide +kernel

/-- R144: an empty journal gives no records and no hand-over. -/
theorem test_read_journal :
    (after (.readJournal ⟨0x3A#7, [0x01#8, 0x04#8]⟩) (stationIn .listen)).port.handOver = false := by
  decide +kernel

/-- R54: a held LEVEL latch stays SET and is reported. -/
theorem test_ack_slots :
    (after (.ackSlots ⟨0x3A#7, [0x01#8, 0x00#8, 0x30#8]⟩)
      { matching true [] (record 0 .stopped .stopped) .asserted with
        slots := put State.reset.slots 3
          { own := .remote, level := .asserted, latch := true } }).port.response.map Response.data =
            some [0x03#8] := by decide +kernel

/-- R120: LINE_STUCK is cleared when it is not held. -/
theorem test_ack_conditions :
    anyCond (after (.ackConditions ⟨0x3A#7, [0x01#8, 0x7F#8]⟩)
      { stationIn .active with conds := tab fun c => c = condLineStuck }) = false := by
  decide +kernel

/-- R112: the match latch of a named pattern is cleared. -/
theorem test_ack_patterns :
    ((after (.ackPatterns ⟨0x3A#7, [0x01#8, 0x01#8]⟩)
      { stationIn .active with
        patterns := put State.reset.patterns 0
          { record 0 .stopped .stopped with latch := true } }).patterns.get 0).latch = false := by
  decide +kernel

/-- R62, R72: the first change of an OWNED channel makes the head. -/
theorem test_set_soft :
    ((after (.setSoft ⟨0x3A#7, [0x01#8, 0x01#8, 0x01#8]⟩)
      { stationIn .active with
        profile := profileWith true .none []
        chans := put State.reset.chans 0
          { state := .owned, level := .released, sent := .released, pending := []
            inFlight := false } }).chans.get 0).pending = [.asserted] := by decide +kernel

/-- R73: a pulse into an empty list is [ASSERTED, RELEASED]. -/
theorem test_pulse_soft :
    ((after (.pulseSoft ⟨0x3A#7, [0x01#8, 0x01#8]⟩)
      { stationIn .active with
        profile := profileWith true .none []
        chans := put State.reset.chans 0
          { state := .owned, level := .released, sent := .released, pending := []
            inFlight := false } }).chans.get 0).pending = [.asserted, .released] := by decide +kernel

/-- R160, R173: RESTART in LOADING begins the read again; with an operand it is refused. -/
theorem test_restart :
    (after (.restart ⟨0x3A#7, [0x01#8]⟩ 0 0) (reading .profiles 200 1 [] [])).loader.pos = 0
      ∧ (after (.restart ⟨0x3A#7, [0x01#8, 0x00#8]⟩ 0 0) (stationIn .active)).port.response.map
        Response.result = some .badLength := by decide +kernel

/-- R167, R178: an unknown code is BAD_REQUEST. -/
theorem test_unknown_request :
    (after (.unknownRequest 0x77#8 ⟨0x3A#7, [0x01#8]⟩) (stationIn .active)).port.response.map
      Response.result = some .badRequest := by decide +kernel

/-- R165: a read while the buffer is EMPTY sends NONE and then FFh. -/
theorem test_response_read :
    (after (.responseRead ⟨0x3A#7, 5⟩) (stationIn .active)).port.sent =
      [0x00#8, 0x05#8, 0x00#8, 0x00#8, 0xFF#8] := by decide +kernel

/-- R163: with straps 3 the port acknowledges 3Dh and no other address; a read from 3Ah and a RESTART to
the general call address change nothing. -/
theorem test_other_addresses :
    let s : State := { stationIn .active with addrCode := 3 }
    (∀ dst, portAnswers s dst = decide (dst = 0x3D#7))
      ∧ after (.responseRead ⟨0x3A#7, 4⟩) s = s ∧ after (.restart ⟨0x00#7, [0x01#8]⟩ 0 0) s = s
      ∧ sdaPin s (.addressAck 0x3D#7) = .low ∧ sdaPin s (.writeAck 0x3D#7 8) = .undriven := by
  decide +kernel

/-- R165: the length of an empty buffer's answer is 0, and its result NONE, 05h, pulls SDA low in bit 1
and leaves it in bit 0. -/
theorem test_read_bits :
    sdaPin (stationIn .active) (.readData 0x3A#7 1 0) = .undriven
      ∧ sdaPin (stationIn .active) (.readData 0x3A#7 1 1) = .low
      ∧ sdaPin (stationIn .active) (.readData 0x3A#7 4 7) = .undriven := by decide +kernel

/-- R9: a LOCAL slot that carries RELEASED and reads DRIVEN is contention. -/
theorem test_cell_sampled :
    ((after (.cellSampled .driven)
      { onLineAt .active .frame 12 with
        profile := profileWith true .none []
        chans := put State.reset.chans 0 { risingChannel false with pending := [] }
        slots := put State.reset.slots 3
          { own := .localOwned, level := .released, latch := false } }).lif.contention.get 3) = true := by
  decide +kernel

/-! ### States that meet the hypotheses of the statements -/

theorem witness_ExecLeavesQueue : exec .gapComplete State.reset = .next State.reset := rfl

theorem witness_WellFormedCommandsComplete :
    Instr.wf .pinReset = true ∧ Instr.wf (.unknownRequest 0x01#8 ⟨0x3A#7, []⟩) = false := by decide

theorem witness_MidEventsActAsCommands :
    ∀ st, st = .active ∨ st = .observer →
      (seen3 st).AtCheck ∧ ((seen3 st).station = .active ∨ (seen3 st).station = .observer)
        ∧ (seen3 st).lif.fault = false ∧ (seen3 st).lif.presence.get 3 = true
        ∧ (seen3 st).lif.level.get 3 = true ∧ ((seen3 st).slots.get 3).level = .released := by
  rintro st (rfl | rfl) <;> unfold State.AtCheck <;> decide

theorem witness_MidEventsActAsCommands_acknowledged :
    let s := heard (fun k => k = 3 ∨ k = 5) (fun k => k = 3 ∨ k = 5) (stationIn .observer)
    s.AtCheck ∧ s.lif.fault = false ∧ s.changedSlots.head? = some 3 ∧ 2 ≤ s.changedSlots.length
      ∧ (0x03#8).toNat < 48 ∧ (0x03#8).toNat + (0x01#8).toNat ≤ 48
      ∧ (0x00#8).toNat + (0x30#8).toNat ≤ 48 := by
  unfold State.AtCheck; decide +kernel

theorem witness_MidEventsActAsCommands_holds :
    let held := matching true [.hold 3 0 4] (record 0 .stopped (.hold 40)) .asserted
    let fallen := heard (fun k => k = 3) (fun _ => false) held
    let stands := heard (fun k => k = 3 ∨ k = 5) (fun k => k = 3 ∨ k = 5) held
    fallen.AtCheck ∧ fallen.station = .active ∧ fallen.lif.fault = false
      ∧ fallen.changedSlots = [3] ∧ fallen.frameLevel 3 = .released
      ∧ stands.AtCheck ∧ stands.lif.fault = false
      ∧ stands.changedSlots = [5] ∧ stands.frameLevel 3 = .asserted
      ∧ (held.profile.patterns.get 0).steps = [.hold 3 0 4] ∧ (held.patterns.get 0).progress = 0
      ∧ (held.patterns.get 0).timer = .hold 40
      ∧ ∀ q : Fin 8, q ≠ 0 → (held.profile.patterns.get q).steps = [] := by
  unfold State.AtCheck; decide +kernel

theorem witness_EventsThatDoNotHappen :
    ¬ State.reset.AtCheck ∧ ¬ (onLineAt .active .frame 100).AtCheck
      ∧ 5 ≤ (onLineAt .active .frame 5).lif.pos ∧ (stationIn .loading).station.onLine = false
      ∧ State.reset.pending = [] ∧ (stationIn .active).station ≠ .reset
      ∧ State.reset.station ≠ .loading ∧ State.reset.lif.line ≠ .gap
      ∧ ({ Lif.default with line := .gap, gapCount := 103 } : Lif).gapCount < 104
      ∧ (onLineAt .active .gap 0).lif.line ≠ .idle
      ∧ ({ Lif.default with backoff := true } : Lif).backoff = true
      ∧ (stationIn .observer).station = .observer
      ∧ State.reset.lif.refreshTimer = .stopped ∧ State.reset.owner.waitTimer = .stopped
      ∧ State.reset.lif.backoffTimer = .stopped ∧ State.reset.lif.stuckTimer = .stopped
      ∧ State.reset.lif.recoveryTimer = .stopped ∧ (State.reset.inputs.get 11).timer = .stopped
      ∧ State.reset.host.timer .hpon = .stopped ∧ (State.reset.patterns.get 7).window = .stopped
      ∧ (State.reset.patterns.get 7).timer = .stopped ∧ State.reset.blink.running = false
      ∧ State.reset.station = .reset := by unfold State.AtCheck; decide

theorem witness_ResetCommands :
    State.reset.station = .reset ∧ (stationIn .loading).station ≠ .reset := by decide

theorem witness_RestartCommand :
    ∀ st, st ≠ Station.reset → (stationIn st).station ≠ .reset := fun _ h => h

theorem witness_ImageBytesTaken_header :
    (reading .header 0 0 [] []).station = .loading ∧ (reading .header 0 0 [] []).loader.phase = .header
      ∧ (reading .header 1 0 [0xC7#8] []).loader.header ++ [0x1E#8] = [0xC7#8, 0x1E#8]
      ∧ (reading .header 2 0 [] []).loader.pos = 2
      ∧ (reading .header 3 0 [] []).loader.pos = 3 ∧ 1 ≤ (0x01#8).toNat ∧ (0x10#8).toNat ≤ 16
      ∧ (reading .header 3 0 [] []).stationCode.toNat < (0x01#8).toNat
      ∧ (reading .header 4 0 [] []).loader.pos = 4 ∧ (reading .header 5 0 [] []).loader.pos = 5 := by
  decide

theorem witness_ImageBytesTaken_profiles :
    (reading .profiles 333 1 [] []).loader.phase = .profiles
      ∧ (reading .profiles 333 1 [] []).loader.pos + 1
        < 6 + 329 * (reading .profiles 333 1 [] []).loader.count := by decide

theorem witness_ImageBytesTaken_port :
    let s := after (.resetEnd 0 0) State.reset
    s.station = .loading ∧ s.loader.selected = true ∧ s.loader.sent = [0x03#8, 0x00#8, 0x00#8]
      ∧ (stationIn .listen).station ≠ .loading ∧ (stationIn .loading).loader.selected = false := by decide

theorem witness_ImageHeaderRefused :
    (reading .header 1 0 [0xC7#8] []).loader.header ++ [0x1F#8] ≠ [0xC7#8, 0x1E#8]
      ∧ (reading .header 2 0 [] []).loader.pos = 2 ∧ (0x02#8 : Byte) ≠ 0x01#8
      ∧ (reading .header 3 0 [] []).loader.pos = 3 ∧ (0x00#8).toNat = 0 ∧ 16 < (0x11#8).toNat
      ∧ (0x01#8).toNat
        ≤ ({ reading .header 3 0 [] [] with stationCode := 1 } : State).stationCode.toNat := by
  decide

theorem witness_ImageVerdict :
    (reading .profiles 334 1 [] []).loader.pos + 1
        = 6 + 329 * (reading .profiles 334 1 [] []).loader.count
      ∧ (reading .profiles 334 1 [] []).loader.sum + (0x01#8).setWidth 16 ≠ 0
      ∧ (reading .profiles 334 1 [] []).loader.sum + (0x00#8).setWidth 16 = 0
      ∧ decodeProfile ((reading .profiles 334 1 [] []).loader.retained ++ [0x00#8]) = none
      ∧ (decodeProfile
          ((reading .profiles 334 1 [] shortProfile).loader.retained ++ [0x00#8])).isSome = true := by
  decide +kernel

theorem witness_LoadingEnds :
    ∃ t, exec (.imageByteTaken 0xFF#8) (reading .header 1 0 [0xFF#8] []) = .next t
      ∧ t.station ≠ .loading
      ∧ (reading .header 1 0 [0xFF#8] []).conds = (tab fun _ => false)
      ∧ (reading .header 1 0 [0xFF#8] []).journal = { records := [], seq := 0, lost := 0, handed := 0 } :=
  ⟨_, rfl, by decide, rfl, rfl⟩

theorem witness_DecodedProfilesValid : ∃ p, decodeProfile (shortProfile ++ [0x00#8]) = some p :=
  Option.isSome_iff_exists.mp (by decide +kernel)

theorem witness_DecodedProfilesValid_image :
    (shortProfile ++ [0x00#8]).length = 329 ∧ ProfilePasses (shortProfile ++ [0x00#8]) := by
  unfold ProfilePasses SlotPasses ChanPasses NamesSource InputPasses PatternPasses StepPasses RulePasses
  refine ⟨?_, ?_, ?_, ?_, ?_, ?_, ?_, ?_⟩ <;> decide +kernel

theorem witness_FallingEdge :
    (stationIn .listen).station.onLine = true ∧ (stationIn .listen).lif.line = .idle
      ∧ ({ Lif.default with line := .gap, gapCount := 103 } : Lif).gapLen ≤ 103 + 1
      ∧ ({ Lif.default with line := .gap, gapCount := 102 } : Lif).gapCount + 1 < 104
      ∧ (onLineAt .active .frame 7).lif.line = .frame ∧ (onLineAt .active .stuck 0).lif.line = .stuck
      ∧ (stationIn .loading).station.onLine = false := by decide

theorem witness_StartPattern :
    ∀ st, st = .listen ∨ st = .active ∨ st = .observer →
      (onLineAt st .frame 4).station.onLine = true ∧ (onLineAt st .frame 4).lif.line = .frame
        ∧ (onLineAt st .frame 4).lif.pos < 5 := by
  rintro st (rfl | rfl | rfl) <;> decide

theorem witness_FrameStart :
    State.reset.lif.startDrive = 0
      ∧ ((put State.reset.chans 0 (risingChannel false)).get 0).state = .owned
      ∧ ((put State.reset.chans 0 (risingChannel false)).get 0).pending ≠ []
      ∧ mayStart { stationIn .active with chans := put State.reset.chans 0 (risingChannel false) } = true
      ∧ mayStart { stationIn .active with lif := { Lif.default with announce := true } } = true
      ∧ mayStart { stationIn .listen with lif := { Lif.default with census := true } } = true
      ∧ mayStart State.reset = false := by decide +kernel

theorem witness_FrameStart_driving :
    (after .frameStart { stationIn .active with lif := { Lif.default with refresh := true } }).lif.startDrive
      ≠ 0 := by decide

/-- An ACTIVE station in a frame whose channel 0 is OWNED, its list's head in flight or not. -/
def owning (inFlight : Bool) (pos : Nat) : State :=
  { onLineAt .active .frame pos with
    profile := profileWith true .none []
    slots := put State.reset.slots 3 { own := .localOwned, level := .released, latch := false }
    chans := put State.reset.chans 0 (risingChannel inFlight)
    lif := { Lif.default with line := .frame, pos := pos, presence := tab fun k => k = 3 } }

theorem witness_SlotCells_owned :
    ∀ mark, (owning mark 12).OwnershipLaw ∧ (owning mark 12).PendingLaw
      ∧ ((owning mark 12).chans.get 0).state = .owned
      ∧ ((owning mark 12).profile.chans.get 0).slot = 3 ∧ (owning mark 12).lif.line = .frame
      ∧ (owning mark 12).lif.startDrive = 0 ∧ (owning mark 12).lif.pos = 6 + 2 * (3 : Fin 48).val
      ∧ ((owning mark 12).chans.get 0).inFlight = mark := by
  intro mark
  refine ⟨?_, ?_, ?_⟩
  · cases mark <;>
      refine ⟨by decide +kernel, by decide +kernel, by decide +kernel, by decide +kernel,
        by decide +kernel, by decide +kernel, by decide +kernel⟩
  · unfold State.PendingLaw Channel.Lawful
    cases mark <;> decide +kernel
  · cases mark <;> decide +kernel

theorem witness_SlotCells :
    (onLineAt .active .frame 5).station.onLine = true
      ∧ (onLineAt .active .frame 5).lif.pos = 5 + 2 * (0 : Fin 48).val
      ∧ (onLineAt .active .frame 99).lif.pos = 5 + 2 * (47 : Fin 48).val
      ∧ (onLineAt .active .frame 100).lif.pos = 6 + 2 * (47 : Fin 48).val
      ∧ (onLineAt .active .frame 100).lif.line = .frame := by decide

theorem witness_OtherCells :
    (onLineAt .active .gap 0).lif.gapCount ≤ (onLineAt .active .gap 0).lif.gapLen
      ∧ (104 : Nat) ≤ ({ Lif.default with line := .gap, gapCount := 104 } : Lif).gapCount
      ∧ (onLineAt .observer .stuck 0).lif.line = .stuck ∧ (onLineAt .listen .idle 0).lif.line = .idle
      ∧ (onLineAt .listen .idle 0).station.onLine = true
      ∧ (onLineAt .listen .frame 4).lif.pos < 5 ∧ (onLineAt .listen .frame 101).lif.pos = 101
      ∧ (onLineAt .listen .frame 4).lif.line = .frame ∧ (stationIn .loading).station.onLine = false := by
  decide

theorem witness_CellsDriven :
    (onLineAt .active .frame 5).lif.line = .frame ∧ (onLineAt .active .frame 5).lif.startDrive = 0
      ∧ (onLineAt .active .frame 6).lif.pos = 6 + 2 * (0 : Fin 48).val
      ∧ (onLineAt .active .frame 101).lif.pos = 101
      ∧ (onLineAt .listen .frame 101).station ≠ .active := by decide

theorem witness_CellsDriven_law :
    (onLineAt .observer .frame 101).LineLaw ∧ (onLineAt .observer .frame 101).station ≠ .active
      ∧ (onLineAt .observer .frame 101).station ≠ .listen := by
  unfold State.LineLaw; decide +kernel

theorem witness_LineTimerExpiries :
    ({ Lif.default with refreshTimer := .running 10 } : Lif).refreshTimer = .running 10
      ∧ (stationIn .active).station = .active ∧ (stationIn .listen).station = .listen
      ∧ ({ State.reset.owner with waitTimer := .running 5 } : Owner).waitTimer = .running 5
      ∧ ({ Lif.default with backoffTimer := .running 50 } : Lif).backoffTimer = .running 50
      ∧ (stationIn .observer).station.onLine = true := by decide

theorem witness_StuckLine :
    ({ onLineAt .listen .gap 0 with
        lif := { Lif.default with line := .gap, stuckTimer := .running 2 } } : State).lif.stuckTimer
        = .running 2
      ∧ (onLineAt .listen .gap 0).lif.line = .gap ∧ (onLineAt .listen .idle 0).lif.line = .idle
      ∧ (onLineAt .listen .gap 0).station.onLine = true
      ∧ ({ Lif.default with line := .stuck, recoveryTimer := .running 1 } : Lif).recoveryTimer
        = .running 1 := by decide

theorem witness_StuckInFrame :
    let s : State :=
      { onLineAt .active .frame 20 with
        lif :=
          { Lif.default with
            line := .frame, pos := 20, stuckTimer := .running 2, contention := tab fun k => k = 3 } }
    s.station.onLine = true ∧ s.lif.stuckTimer = .running 2 ∧ s.lif.line = .frame
      ∧ ((List.finRange 48).filter fun k => s.lif.contention.get k) ≠ [] := by decide

theorem witness_ValidEnd :
    ∀ st, st = .active ∨ st = .observer →
      (seen3 st).AtCheck ∧ (seen3 st).lif.fault = false
        ∧ ∀ p, ((seen3 st).profile.patterns.get p).steps = [] := by
  rintro st (rfl | rfl) <;> unfold State.AtCheck <;> decide

theorem witness_FrameRecords :
    let between : List (List MidEvent) :=
      [[.fallingEdge], [.request 0x10#8 ⟨0x3A#7, [0x07#8, 0x03#8, 0x01#8]⟩ 0 0, .holdTimerExpiry 0]]
    ∀ es ∈ between, ∀ e ∈ es, isReset (portAddress (stationIn .active)) e = false := by decide +kernel

theorem witness_ValidEndHeads :
    let s : State := { seen3 .active with chans := put State.reset.chans 0 (risingChannel true) }
    s.AtCheck ∧ s.station = .active ∧ s.lif.fault = false ∧ s.PendingLaw
      ∧ (s.chans.get 0).inFlight = true ∧ (s.chans.get 1).inFlight = false := by
  unfold State.AtCheck State.PendingLaw Channel.Lawful
  decide +kernel

theorem witness_CensusFrame :
    (seen3 .listen).AtCheck ∧ (seen3 .listen).station = .listen ∧ (seen3 .listen).lif.fault = false
      ∧ (seen3 .listen).owner.progress = 0
      ∧ ∀ c, ((seen3 .listen).chans.get c).state ≠ .owned := by
  unfold State.AtCheck; decide

theorem witness_CensusCompletion :
    let s : State :=
      { seen3 .listen with
        owner := { State.reset.owner with progress := 1 }
        profile := profileWith true .none [.rise 3 0]
        chans := put State.reset.chans 0 { risingChannel false with state := .claiming } }
    s.AtCheck ∧ s.lif.fault = false ∧ s.owner.progress = 1 ∧ s.owner.imageFault = false
      ∧ (∀ c, (s.chans.get c).state ≠ .owned) ∧ (s.chans.get 0).state = .claiming
      ∧ (s.profile.patterns.get 0).steps = [.rise 3 0] := by
  unfold State.AtCheck; decide +kernel

theorem witness_CensusCompletion_conditions :
    let s : State :=
      { seen3 .listen with
        owner := { State.reset.owner with progress := 1 }
        profile :=
          { fallbackProfile with
            chans :=
              put fallbackProfile.chans 0
                { enable := true, slot := 3, source := .conditions, invert := false } }
        chans := put State.reset.chans 0 { State.reset.chans.get 0 with state := .claiming } }
    s.AtCheck ∧ s.lif.fault = false ∧ s.owner.progress = 1 ∧ (∀ c, (s.chans.get c).state ≠ .owned)
      ∧ (s.profile.chans.get 0).source = .conditions ∧ (s.chans.get 0).state = .claiming
      ∧ s.lif.presence.get (s.profile.chans.get 0).slot = true ∧ (∀ d, s.conds.get d = false)
      ∧ ((after (.frameEnd .free []) s).chans.get 0).level = .asserted := by
  unfold State.AtCheck; decide +kernel

theorem witness_VoidEnd :
    (seen3 .observer).AtCheck ∧ (Sample.ambiguous ≠ .free)
      ∧ ({ Lif.default with fault := true } : Lif).fault = true
      ∧ (∀ k, (seen3 .observer).lif.contention.get k = false)
      ∧ ({ Lif.default with voidCount := 6 } : Lif).voidCount < 7
      ∧ 7 ≤ ({ Lif.default with voidCount := 7 } : Lif).voidCount := by
  unfold State.AtCheck; decide

theorem witness_VoidEndWithdraws :
    let s : State :=
      { seen3 .active with
        lif :=
          { Lif.default with
            line := .frame, pos := 101, fault := true, voidCount := 7
            contention := tab fun k => k = 3 }
        profile := profileWith true .none []
        chans := put State.reset.chans 0 { risingChannel false with pending := [] } }
    s.AtCheck ∧ s.lif.fault = true
      ∧ ((List.finRange 48).filter fun k => s.lif.contention.get k) ≠ []
      ∧ (s.chans.get 0).state = .owned
      ∧ s.lif.contention.get (s.profile.chans.get 0).slot = true := by
  unfold State.AtCheck; decide +kernel

theorem witness_PinChange :
    let s := stationIn .listen
    let z : State := { stationIn .active with
      profile := profileWith true .none [], host := { State.reset.host with hpon := .high } }
    s.station.onLine = true ∧ (s.profile.inputs.get 0).domain = .standby
      ∧ s.pins.inputs.get 0 ≠ .high
      ∧ (if rawOf (s.profile.inputs.get 0).polarity .high = .active then Level.asserted else .released)
        ≠ (s.inputs.get 0).filtered
      ∧ (s.profile.inputs.get 0).filterMs ≠ 0 ∧ s.pins.inputs.get 0 = .low
      ∧ ({ raw := .inactive, timer := .running 16, filtered := .asserted, output := .asserted }
          : InputRec).filtered = .asserted
      ∧ (z.profile.inputs.get 1).domain = .main ∧ hostPower z ≠ .off
      ∧ (z.profile.inputs.get 1).filterMs = 0 ∧ (z.profile.inputs.get 1).mode = .follow
      ∧ ¬ ((stationIn .loading).station.onLine = true) := by decide

theorem witness_PinChange_modes :
    ∀ mode, mode = .toggle ∨ mode = .oneshot ∨ mode = .follow →
      let s := fed mode 0
      s.station.onLine = true ∧ hostPower s ≠ .off ∧ s.pins.inputs.get 1 ≠ .high
        ∧ (if rawOf (s.profile.inputs.get 1).polarity .high = .active then Level.asserted
            else .released) ≠ (s.inputs.get 1).filtered
        ∧ (s.profile.inputs.get 1).filterMs = 0 ∧ (s.profile.inputs.get 1).mode = mode
        ∧ (s.profile.chans.get 0).source = .input 1 ∧ (s.chans.get 0).state = .owned
        ∧ (s.chans.get 0).pending = [] ∧ (s.inputs.get 1).output = .released
        ∧ (s.chans.get 0).level = Level.released.through (s.profile.chans.get 0).invert
        ∧ (s.chans.get 0).sent = Level.released.through (s.profile.chans.get 0).invert := by
  rintro mode (rfl | rfl | rfl) <;> decide +kernel

theorem witness_FilterExpiry_oneshot :
    let s : State := { fed .oneshot 4 with
      inputs := put State.reset.inputs 1
        { raw := .active, timer := .running 4, filtered := .released, output := .released } }
    s.station.onLine = true ∧ (s.inputs.get 1).timer = .running 4 ∧ (s.inputs.get 1).raw = .active
      ∧ (s.profile.chans.get 0).source = .input 1 ∧ (s.profile.inputs.get 1).mode = .oneshot
      ∧ (s.inputs.get 1).filtered = .released ∧ (s.inputs.get 1).output = .released
      ∧ (s.chans.get 0).state = .owned ∧ (s.chans.get 0).pending = []
      ∧ (s.chans.get 0).level = Level.released.through (s.profile.chans.get 0).invert
      ∧ (s.chans.get 0).sent = Level.released.through (s.profile.chans.get 0).invert := by
  decide +kernel

theorem witness_FilterExpiry :
    let s : State := { stationIn .listen with
      inputs := put State.reset.inputs 11
        { raw := .active, timer := .running 64, filtered := .released, output := .released } }
    s.station.onLine = true ∧ (s.inputs.get 11).timer = .running 64
      ∧ (s.chans.get 0).level = effectiveLevel s 0 := by decide +kernel

theorem witness_HostPinChange :
    State.reset.station = .reset ∧ State.reset.pins.hpon = .low
      ∧ (stationIn .loading).station ≠ .reset ∧ (stationIn .loading).pins.hpon ≠ .high
      ∧ (stationIn .loading).pins.hpawake ≠ .high := by decide

theorem witness_HostFilterExpiry :
    let s : State := { stationIn .active with
      profile := profileWith true .none []
      pins := { State.reset.pins with hpon := .high }
      host := { State.reset.host with hponTimer := .running 1, hpawakeTimer := .running 1 } }
    let u : State := { s with
      pins := { State.reset.pins with hpon := .low }
      host := { State.reset.host with hpon := .high, hponTimer := .running 1 } }
    s.station ≠ .reset ∧ s.host.hponTimer = .running 1 ∧ s.host.hpawakeTimer = .running 1
      ∧ s.host.hpon = .low ∧ s.pins.hpon ≠ .low ∧ (s.profile.inputs.get 1).domain = .main
      ∧ u.host.hponTimer = .running 1 ∧ u.pins.hpon = .low ∧ u.host.hpon ≠ .low := by decide

theorem witness_HostFilterExpiry_channels :
    let s := fed .toggle 0
    (s.profile.chans.get 0).source = .input 1 ∧ (s.profile.inputs.get 1).domain = .main
      ∧ (s.profile.chans.get 1).source = .input 0 ∧ (s.profile.inputs.get 0).domain = .standby
      ∧ s.station.onLine = true := by decide +kernel

theorem witness_WindowAndHoldExpiry :
    let s := matching true [.rise 3 0, .hold 3 5 4] (record 1 (.running 50) .stopped) .released
    let u := matching true [.rise 3 0, .hold 3 5 4] (record 1 .stopped (.hold 40)) .asserted
    let v := matching true [.hold 3 5 4, .quiet 1] (record 0 .stopped (.hold 40)) .asserted
    (s.patterns.get 0).window = .running 50
      ∧ (s.profile.patterns.get 0).steps = [.rise 3 0, .hold 3 5 4]
      ∧ (u.patterns.get 0).timer = .hold 40
      ∧ (u.profile.patterns.get 0).steps[(u.patterns.get 0).progress]? = some (.hold 3 5 4)
      ∧ (u.slots.get 3).level = .asserted
      ∧ (u.profile.patterns.get 0).steps[(u.patterns.get 0).progress + 1]? = none
      ∧ (v.profile.patterns.get 0).steps[(v.patterns.get 0).progress + 1]? = some (.quiet 1)
      ∧ (s.slots.get 3).level = .released := by decide

theorem witness_QuietExpiry :
    let s := matching false [.quiet 1, .rise 3 0] (record 0 .stopped (.quiet 10)) .released
    let u := matching false [.rise 3 0, .quiet 1] (record 1 .stopped (.quiet 10)) .released
    (s.patterns.get 0).timer = .quiet 10
      ∧ (s.profile.patterns.get 0).steps[(s.patterns.get 0).progress + 1]? = some (.rise 3 0)
      ∧ (u.patterns.get 0).timer = .quiet 10
      ∧ [Step.quiet 1].length ≤ (u.patterns.get 0).progress := by decide

theorem witness_TransitionJudged :
    let rise3 : Transition := { slot := 3, level := .asserted, cause := .frame, stamp := 7 }
    let fall3 : Transition := { slot := 3, level := .released, cause := .ownerLost, stamp := 7 }
    let cfg := ((profileWith true .none [.rise 3 0, .fall 3 9]).patterns.get 0)
    Step.satisfiedBy (.rise 3 0) rise3 = true ∧ cfg.steps[0 + 1]? = some (.fall 3 9)
      ∧ Step.satisfiedBy (.fall 3 9) fall3 = true ∧ cfg.steps[1 + 1]? = none
      ∧ Step.satisfiedBy (.rise 3 0) { rise3 with slot := 4 } = false ∧ cfg.watches 4 = false
      ∧ Step.satisfiedBy (.rise 3 0) fall3 = false ∧ cfg.watches 3 = true
      ∧ (Step.rise 3 0).isHold = false ∧ (Step.rise 3 0).isQuiet = false
      ∧ cfg.strict = true ∧ ((profileWith false .none [.rise 3 0]).patterns.get 0).strict = false
      ∧ Step.hold rise3.slot 0 4 = .hold 3 0 4 ∧ rise3.level = .asserted ∧ fall3.level = .released
      ∧ ((profileWith false .none [.quiet 1, .rise 3 0]).patterns.get 0).watches 3 = true := by
  decide

theorem witness_TransitionJudged_hold :
    let cfg (strict : Bool) := (profileWith strict .none [.hold 3 0 4, .rise 5 0]).patterns.get 0
    (∀ strict, (cfg strict).strict = strict ∧ (cfg strict).watches 5 = true
        ∧ (cfg strict).steps[0]? = some (.hold 3 0 4))
      ∧ (3 : Fin 48) ≠ 5
      ∧ Step.satisfiedBy (.hold 3 0 4) { slot := 5, level := .asserted, cause := .frame, stamp := 7 }
        = false
      ∧ (record 0 .stopped .stopped).timer = .stopped
      ∧ (record 1 .stopped (.hold 40)).timer = .hold 40
      -- the falling slot satisfies step 0, and a rising one starts step 0's hold anew
      ∧ Step.satisfiedBy (.fall 3 0) { slot := 3, level := .released, cause := .frame, stamp := 7 }
        = true
      ∧ [Step.hold 3 0 4].head? = some (.hold 3 0 4) := by decide

theorem witness_PatternCompletes_several :
    let s := matching true [.quiet 1, .rise 3 0] (record 1 .stopped .stopped) .asserted
    let u := matching true [.rise 3 0, .hold 3 0 4] (record 1 .stopped (.hold 40)) .asserted
    let rise3 : Transition := { slot := 3, level := .asserted, cause := .frame, stamp := 7 }
    (s.profile.patterns.get 0).steps = [.quiet 1, .rise 3 0]
      ∧ [Step.quiet 1, .rise 3 0][(s.patterns.get 0).progress]? = some (.rise 3 0)
      ∧ [Step.rise 3 0].length ≤ (s.patterns.get 0).progress
      ∧ Step.satisfiedBy (.rise 3 0) rise3 = true
      ∧ (u.profile.patterns.get 0).steps = [.rise 3 0, .hold 3 0 4]
      ∧ [Step.rise 3 0, .hold 3 0 4][(u.patterns.get 0).progress]? = some (.hold 3 0 4)
      ∧ [Step.hold 3 0 4].length ≤ (u.patterns.get 0).progress
      ∧ (u.patterns.get 0).timer = .hold 40 ∧ (u.slots.get 3).level = .asserted := by decide

theorem witness_PatternCompletes :
    let s : State :=
      { matching false [.quiet 1] (record 0 .stopped (.quiet 10)) .released with
        chans := put State.reset.chans 1
          { state := .owned, level := .released, sent := .released, pending := [], inFlight := false } }
    (s.profile.patterns.get 0).steps = [.quiet 1] ∧ (s.patterns.get 0).progress = 0
      ∧ (s.patterns.get 0).timer = .quiet 10 ∧ (s.profile.patterns.get 0).action = .pulse
      ∧ (s.profile.patterns.get 0).journal = true ∧ (s.profile.patterns.get 1).journal = false
      ∧ (s.chans.get 1).state = .owned ∧ (s.chans.get 1).pending = []
      ∧ (s.profile.chans.get 1).invert = false
      ∧ ((put s.profile.chans 1
          { enable := true, slot := 5, source := .pattern 0, invert := false }).get 1).source
        = .pattern 0 := by decide

theorem witness_BlinkAndIndicators :
    let s : State := { stationIn .listen with
      blink := { running := true, phase := 1999 }, conds := tab fun c => c = condImageFault }
    s.blink.running = true ∧ (stationIn .loading).station.onLine = false
      ∧ s.station.onLine = true ∧ condHolds s ((s.profile.rules.get 0).get 0).cond = true
      ∧ ∀ e, condHolds s ((s.profile.rules.get 1).get e).cond = false := by decide +kernel

theorem witness_AttnAndWake :
    (stationIn .active).station.onLine = true ∧ (stationIn .loading).station = .loading
      ∧ State.reset.station = .reset
      ∧ attnAsserted
        { stationIn .listen with
          conds := tab fun c => c = condImageFault
          host := { State.reset.host with hpon := .high, hpawake := .high } } = true := by
  decide +kernel

theorem witness_QueueRule :
    let empty : Channel :=
      { state := .owned, level := .released, sent := .released, pending := [], inFlight := false }
    let pulse : Channel :=
      { state := .owned, level := .released, sent := .released, pending := [.asserted, .released]
        inFlight := true }
    empty.state = .owned ∧ Level.asserted ≠ empty.level
      ∧ empty.level = target empty.sent empty.pending
      ∧ (risingChannel true).level = target (risingChannel true).sent (risingChannel true).pending
      ∧ (risingChannel true).pending = [.asserted] ∧ Level.asserted ≠ (risingChannel true).sent
      ∧ pulse.level = target pulse.sent pulse.pending
      ∧ (State.reset.chans.get 0).state ≠ .owned := by decide

theorem witness_RefusedRequests :
    portAddress (stationIn .listen) = 0x3A#7 ∧ portAddress (stationIn .loading) = 0x3A#7
      ∧ (0x3D#7) ≠ portAddress (stationIn .listen) ∧ (0x00#7) ≠ portAddress (stationIn .listen)
      ∧ State.reset.station = .reset ∧ (stationIn .loading).station = .loading
      ∧ ¬ (RequestCode.getStatus = .restart) ∧ (stationIn .listen).station.onLine = true
      ∧ (List.replicate 8 0x00#8).length = 8
      ∧ ¬ TakesOperands .getSlots [0x00#8] ∧ TakesOperands .getSlots [0x2F#8, 0x02#8]
      ∧ ¬ AcceptsOperands .getSlots [0x2F#8, 0x02#8] ∧ ¬ AcceptsOperands .readJournal [0x05#8]
      ∧ ¬ AcceptsOperands .ackConditions [0x80#8] ∧ ¬ AcceptsOperands .setSoft [0x00#8, 0x02#8]
      ∧ RequestCode.ofByte 0x00#8 = none ∧ [0x00#8].length < 8 := by
  unfold TakesOperands AcceptsOperands
  decide

theorem witness_OnLineRequests :
    ∀ st, st = .listen ∨ st = .active ∨ st = .observer → (stationIn st).station.onLine = true := by
  rintro st (rfl | rfl | rfl) <;> rfl

theorem witness_SnapshotRequests :
    (0x2F#8).toNat < 48 ∧ (0x2F#8).toNat + (0x01#8).toNat ≤ 48 ∧ (0x10#8).toNat ≤ 16
      ∧ (0x00#8).toNat + (0x10#8).toNat ≤ 16 ∧ (0x0F#8).toNat + (0x01#8).toNat ≤ 16
      ∧ ((State.reset.chans.get 0).pending).length ≤ 2
      ∧ (State.reset.patterns.get 0).progress ≤ 5 := by decide

theorem witness_ReadJournal : 1 ≤ (0x01#8).toNat ∧ (0x04#8).toNat ≤ 4 := by decide

theorem witness_ResponseRead :
    let r : Response :=
      { tag := 0, result := .ok, replacedUnread := false, carriesRecords := false, data := [] }
    let p : Port := { buffer := .ready, response := some r, handOver := false, sent := [], acked := 2 }
    (stationIn .loading).station ≠ .reset ∧ State.reset.port.buffer = .empty ∧ p.buffer ≠ .empty
      ∧ p.response = some r ∧ 3 < 4 + r.data.length ∧ 4 + r.data.length ≤ 4 := by decide

theorem witness_AckSlots :
    (0x00#8).toNat < 48 ∧ (0x30#8).toNat ≤ 48 ∧ (0x00#8).toNat + (0x30#8).toNat ≤ 48
      ∧ (0x2F#8).toNat + (0x01#8).toNat ≤ 48 := by decide

theorem witness_AckConditions :
    (0x7F#8).toNat < 128 ∧ (∀ c, State.reset.conds.get c = false)
      ∧ ((tab fun c : Fin 7 => decide (c = condBackoff)).get condBackoff) = true
      ∧ ((put State.reset.profile.chans 0
          { enable := true, slot := 0, source := .conditions, invert := true }).get 0).source
        = .conditions := by decide

theorem witness_SoftRequests :
    let s : State := { stationIn .active with
      profile := profileWith true .none []
      chans := put State.reset.chans 0
        { state := .owned, level := .released, sent := .released, pending := [], inFlight := false } }
    s.station.onLine = true ∧ s.soft.get 1 ≠ .asserted ∧ s.soft.get 1 = .released
      ∧ (s.profile.chans.get 0).source = .soft 1 ∧ (s.profile.chans.get 1).source ≠ .soft 1
      ∧ (s.chans.get 0).pending = [] ∧ (s.profile.chans.get 0).invert = false := by decide

theorem witness_RecordsGenerated :
    State.reset.journal.records.length < 32
      ∧ 32 ≤ (List.replicate 32
        ({ seq := 0, body := .line .clear, lost := none } : Record)).length := by decide

/-- A lawful station in LISTEN with a command waiting. -/
def waiting : State := { stationIn .listen with pending := [.fallingEdge] }

theorem witness_step : step waiting = .next (lineFalls (waiting.setPending [])) := rfl

theorem witness_PendingLawKept : waiting.PendingLaw := by
  unfold State.PendingLaw Channel.Lawful; decide +kernel

theorem witness_SourcesFollowed : waiting.ChannelsFollowSources := by
  unfold State.ChannelsFollowSources; decide +kernel

theorem witness_JournalLawKept : waiting.JournalLaw := by
  refine ⟨by decide, by simp [waiting, stationIn, State.reset], ?_, ?_, by decide, by decide, by decide⟩ <;>
    simp [waiting, stationIn, State.reset]

theorem witness_PatternLawsKept : waiting.PatternLaw ∧ waiting.MatchLaw := by
  have h : ∀ p, waiting.patterns.get p = record 0 .stopped .stopped := by decide
  refine ⟨⟨fun p => ?_, fun _ p => ?_⟩, ?_⟩
  · simp [PatternLawful, currentStep, waiting, stationIn, State.reset, fallbackProfile]
  · simp [h, record]
  · refine ⟨fun p => ?_, fun p _ => ?_, fun _ p => ?_⟩ <;> simp [h, record]

theorem witness_SlotLawKept : waiting.SlotLaw := by
  unfold State.SlotLaw; decide +kernel

theorem witness_OwnershipLawKept : waiting.OwnershipLaw := by
  refine ⟨by decide +kernel, by decide +kernel, by decide +kernel, by decide +kernel,
    by decide +kernel, by decide +kernel, by decide +kernel⟩

theorem witness_LineLawKept : waiting.LineLaw := by
  unfold State.LineLaw; decide +kernel

end Sys2Proof.Tests
end

/-! ### Commands as events between deliveries, and what every step keeps

Most commands may also fall between two deliveries of one frame (R49). What `takeMid` keeps is therefore
shown once for both, and an invariant needs four more commands beside it. -/

namespace Sys2Proof.Machine

open Sys2Proof

/-- A request that reaches the port as a write does what its own command does (R178). -/
theorem exec_requestCommand {code : Byte} {c : RequestCode} (h : RequestCode.ofByte code = some c)
    (w : PortWrite) (stn : BitVec 4) (addr : BitVec 2) (s : State) :
    exec (requestCommand c w stn addr) s
      = .next (addressed w.dst (takeWrite code w.rest stn addr) s) := by
  simp only [addressed, takeWrite, h]
  cases c <;> rfl

/-- An event between two deliveries does what the command of its name does (R49). -/
theorem exec_midCommand (e : MidEvent) (s : State) : exec (midCommand e) s = .next (takeMid e s) := by
  cases e with
  | request code w stn addr =>
    cases h : RequestCode.ofByte code with
    | some c =>
      simp only [midCommand, h]
      exact exec_requestCommand h w stn addr s
    | none => simp only [midCommand, h, exec, execUnknownRequest, takeMid, addressed, takeWrite]
  | _ => rfl

/-- The code byte of a request names it (section 11.3). -/
theorem ofByte_requestByte (c : RequestCode) : RequestCode.ofByte (RequestCode.byte c) = some c := by
  cases c <;> decide

/-- A request's command is an event that may fall between two deliveries (R49). -/
theorem requestCommand_eq_midCommand (c : RequestCode) (w : PortWrite) (stn : BitVec 4)
    (addr : BitVec 2) :
    requestCommand c w stn addr = midCommand (.request (RequestCode.byte c) w stn addr) := by
  simp only [midCommand, ofByte_requestByte]

/-- A predicate that every event between deliveries and the four other commands keep is kept by every
command. -/
theorem kept_by_exec {P : State → Prop} (mid : ∀ e s, P s → P (takeMid e s))
    (reset : ∀ stn addr s, P s → P (resetEnds stn addr s))
    (image : ∀ b s, P s → P (takeImageByte b s))
    (census : ∀ s, P s → P (censusWaitExpires s))
    (frame : ∀ x between s, P s → P (endFrame x between s)) {c : Instr} {s t : State} (h : P s)
    (he : exec c s = .next t) : P t := by
  have of_mid : ∀ e, exec (midCommand e) s = .next t → P t := fun e he => by
    rw [exec_midCommand] at he
    cases he
    exact mid e s h
  have of_request : ∀ r w stn addr, exec (requestCommand r w stn addr) s = .next t → P t :=
    fun r w stn addr he => of_mid _ (requestCommand_eq_midCommand r w stn addr ▸ he)
  cases c with
  | resetEnd stn addr => cases he; exact reset stn addr s h
  | imageByteTaken b => cases he; exact image b s h
  | censusWaitExpiry => cases he; exact census s h
  | frameEnd x between => cases he; exact frame x between s h
  | powerOnReset => exact of_mid .powerOnReset he
  | pinReset => exact of_mid .pinReset he
  | fallingEdge => exact of_mid .fallingEdge he
  | startPatternEnd run cell => exact of_mid (.startPatternEnd run cell) he
  | gapComplete => exact of_mid .gapComplete he
  | frameStart => exact of_mid .frameStart he
  | refreshTimerExpiry => exact of_mid .refreshTimerExpiry he
  | backoffTimerExpiry => exact of_mid .backoffTimerExpiry he
  | stuckTimerExpiry => exact of_mid .stuckTimerExpiry he
  | recoveryTimerExpiry => exact of_mid .recoveryTimerExpiry he
  | pinChange i level => exact of_mid (.pinChange i level) he
  | filterTimerExpiry i => exact of_mid (.filterTimerExpiry i) he
  | hostPowerPinChange pin level => exact of_mid (.hostPowerPinChange pin level) he
  | hostPowerFilterExpiry pin => exact of_mid (.hostPowerFilterExpiry pin) he
  | windowTimerExpiry p => exact of_mid (.windowTimerExpiry p) he
  | holdTimerExpiry p => exact of_mid (.holdTimerExpiry p) he
  | quietTimerExpiry p => exact of_mid (.quietTimerExpiry p) he
  | blinkPhaseCrossing phase => exact of_mid (.blinkPhaseCrossing phase) he
  | responseRead r => exact of_mid (.responseRead r) he
  | cellSampled x => exact of_mid (.cellSampled x) he
  | getStatus w => exact of_request .getStatus w 0 0 he
  | getSlots w => exact of_request .getSlots w 0 0 he
  | getChannels w => exact of_request .getChannels w 0 0 he
  | getPatterns w => exact of_request .getPatterns w 0 0 he
  | readJournal w => exact of_request .readJournal w 0 0 he
  | ackSlots w => exact of_request .ackSlots w 0 0 he
  | ackConditions w => exact of_request .ackConditions w 0 0 he
  | ackPatterns w => exact of_request .ackPatterns w 0 0 he
  | setSoft w => exact of_request .setSoft w 0 0 he
  | pulseSoft w => exact of_request .pulseSoft w 0 0 he
  | restart w stn addr => exact of_request .restart w stn addr he
  | unknownRequest code w =>
    cases hc : RequestCode.ofByte code with
    | some r => simp only [exec, execUnknownRequest, hc, reduceCtorEq] at he
    | none =>
      refine of_mid (.request code w 0 0) ?_
      simpa only [midCommand, hc] using he

/-- What every command keeps, and does not lie in the queue, every step keeps. -/
theorem kept_by_step {P : State → Prop} (queue : ∀ s rest, P s → P (s.setPending rest))
    (command : ∀ (c : Instr) (s t : State), P s → exec c s = .next t → P t) {s t : State} (h : P s)
    (hs : step s = .next t) : P t := by
  cases hq : s.pending with
  | nil =>
    rw [step_nil s hq] at hs
    cases hs
    exact h
  | cons c rest =>
    rw [step_cons s c rest hq] at hs
    exact command c _ t (queue s rest h) hs

/-- What each event between deliveries keeps, the events before one delivery keep. -/
theorem kept_by_takeMids {P : State → Prop} (mid : ∀ e s, P s → P (takeMid e s))
    (es : List MidEvent) {s : State} (h : P s) : P (takeMids es s) := by
  unfold takeMids
  induction es generalizing s with
  | nil => exact h
  | cons e es ih => exact ih (mid e s h)

/-- What each event and each delivery keep, the deliveries of a frame keep (R46, R49). -/
theorem kept_by_deliverAll {P : State → Prop} (mid : ∀ e s, P s → P (takeMid e s))
    (delivery : ∀ tr s, P s → P (deliver tr s)) (trs : List Transition)
    (between : List (List MidEvent)) {s : State} (h : P s) : P (deliverAll trs between s) := by
  induction trs generalizing between s with
  | nil => exact h
  | cons tr trs ih =>
    have after_events := kept_by_takeMids mid (between.headD []) h
    simp only [deliverAll]
    split
    · exact ih _ (delivery tr _ after_events)
    · exact after_events

/-- What accepted requests other than RESTART do (R168 to R172). -/
def requestActions : List (Byte → List Byte → State → State) :=
  [actGetStatus, actGetSlots, actGetChannels, actGetPatterns, actReadJournal, actAckSlots,
    actAckConditions, actAckPatterns, actSetSoft, actPulseSoft, fun _ _ s => s]

/-- A write restarts the station, or is taken as a request with one of the actions (R173, R178). -/
theorem takeWrite_cases (code : Byte) (rest : List Byte) (stn : BitVec 4) (addr : BitVec 2)
    (s : State) :
    takeWrite code rest stn addr s = restartStation stn addr s
        ∧ RequestCode.ofByte code = some .restart ∧ rest.length = 1
      ∨ ∃ c, ∃ act ∈ requestActions, takeWrite code rest stn addr s = takeRequest c rest act s := by
  unfold takeWrite
  split
  case h_11 h =>
    by_cases hl : rest.length = 1
    · exact .inl ⟨if_pos hl, h, hl⟩
    · exact .inr ⟨_, _, by simp [requestActions], if_neg hl⟩
  all_goals exact .inr ⟨_, _, by simp [requestActions], rfl⟩

/-- What every accepted request leaves alone, and neither the port nor the journal holds, a write that is
no restart leaves alone. -/
theorem takeWrite_keeps {β : Type} (g : State → β) (journal : ∀ s x, g (s.setJournal x) = g s)
    (port : ∀ s x, g (s.setPort x) = g s)
    (action : ∀ act ∈ requestActions, ∀ tag ops s, g (act tag ops s) = g s) (code : Byte)
    (rest : List Byte) (stn : BitVec 4) (addr : BitVec 2) (s : State) :
    takeWrite code rest stn addr s = restartStation stn addr s
        ∧ RequestCode.ofByte code = some .restart ∧ rest.length = 1
      ∨ g (takeWrite code rest stn addr s) = g s := by
  rcases takeWrite_cases code rest stn addr s with restart | ⟨c, act, mem, e⟩
  · exact .inl restart
  · rw [e]
    exact .inr (takeRequest_keeps g c rest act s journal port (action act mem))

end Sys2Proof.Machine

/-! ### The cells of a frame (section 11.1) -/

namespace Sys2Proof.Machine

open Sys2Proof

/-- The cell at a position within the frame: the pair of a slot lies at its two positions, and the CHECK
cell behind the last pair (section 11.1). -/
theorem cellAt_cases (pos : Nat) :
    pos < 5 ∧ cellAt pos = .start
      ∨ (∃ k : Fin 48, pos = 5 + 2 * k.val ∧ cellAt pos = .presence k)
      ∨ (∃ k : Fin 48, pos = 6 + 2 * k.val ∧ cellAt pos = .level k)
      ∨ 101 ≤ pos ∧ cellAt pos = .check := by
  unfold cellAt Config.firstSlotCell
  split
  · exact .inl ⟨‹_›, rfl⟩
  · split
    · rename_i slot
      split
      · exact .inr (.inl ⟨⟨_, slot⟩, by show pos = 5 + 2 * ((pos - 5) / 2); omega, rfl⟩)
      · exact .inr (.inr (.inl ⟨⟨_, slot⟩, by show pos = 6 + 2 * ((pos - 5) / 2); omega, rfl⟩))
    · exact .inr (.inr (.inr ⟨by omega, rfl⟩))

@[simp] theorem cellAt_start {pos : Nat} (h : pos < 5) : cellAt pos = .start := if_pos h

theorem cellAt_presence (k : Fin 48) : cellAt (5 + 2 * k.val) = .presence k := by
  rcases cellAt_cases (5 + 2 * k.val) with ⟨h, -⟩ | ⟨j, h, e⟩ | ⟨j, h, -⟩ | ⟨h, -⟩
  · omega
  · rw [e, show k = j from Fin.ext (by omega)]
  · omega
  · omega

theorem cellAt_level (k : Fin 48) : cellAt (6 + 2 * k.val) = .level k := by
  rcases cellAt_cases (6 + 2 * k.val) with ⟨h, -⟩ | ⟨j, h, -⟩ | ⟨j, h, e⟩ | ⟨h, -⟩
  · omega
  · omega
  · rw [e, show k = j from Fin.ext (by omega)]
  · omega

@[simp] theorem cellAt_check : cellAt 101 = .check := rfl

/-! What one cell of the frame in progress does at the line interface (R8 to R10). -/

theorem frameCell_start (x : Sample) {s : State} (h : cellAt s.lif.pos = .start) :
    frameCell x s =
      { s.lif with
        pos := if x = .free then 4 else min (s.lif.pos + 1) 3, startDrive := s.lif.startDrive - 1 } := by
  simp only [frameCell, h]

theorem frameCell_presence (x : Sample) {s : State} {k : Fin 48}
    (h : cellAt s.lif.pos = .presence k) :
    frameCell x s =
      { s.lif with
        pos := s.lif.pos + 1
        presence := put s.lif.presence k (recorded x)
        fault := s.lif.fault || presenceError s k x } := by
  simp only [frameCell, h]

theorem frameCell_level (x : Sample) {s : State} {k : Fin 48} (h : cellAt s.lif.pos = .level k) :
    frameCell x s =
      { s.lif with
        pos := s.lif.pos + 1
        level := put s.lif.level k (recorded x)
        fault := s.lif.fault || levelError s k x || contends s k x
        contention := put s.lif.contention k (s.lif.contention.get k || contends s k x) } := by
  simp only [frameCell, h]

theorem frameCell_check (x : Sample) {s : State} (h : cellAt s.lif.pos = .check) :
    frameCell x s = s.lif := by
  simp only [frameCell, h]

end Sys2Proof.Machine

/-! ### The law of the line interface (section 1.2, R3, R17 to R21)

The law reads the station state and the line interface alone. Each operation of the line interface is
shown to keep it, and every command is one of these or leaves both alone. -/

namespace Sys2Proof.Machine

open Sys2Proof

/-- The law of the line interface, part by part. -/
structure LineOk (st : Station) (l : Lif) : Prop where
  gapCount : l.gapCount ≤ 104
  gapLen : l.gapLen = 6 ∨ l.gapLen = 104
  pos : l.pos ≤ 101
  voidCount : l.voidCount ≤ 7
  startDrive : l.startDrive ≤ 4
  backoff : l.backoff = true ↔ l.backoffTimer.isRunning = true
  recovery : l.recoveryTimer.isRunning = true → l.line = .stuck
  stuck : l.line = .stuck → l.stuckTimer = .stopped
  refresh : l.refreshTimer.isRunning = true → st = .active
  offLine : st.onLine = false → l = Lif.default
  driving : 0 < l.startDrive →
    (l.line = .idle ∨ l.line = .frame ∧ l.pos < Config.firstSlotCell) ∧ (st = .active ∨ st = .listen)

theorem lineLaw_iff (s : State) : s.LineLaw ↔ LineOk s.station s.lif :=
  ⟨fun ⟨h1, h2, h3, h4, h5, h6, h7, h8, h9, h10, h11⟩ => ⟨h1, h2, h3, h4, h5, h6, h7, h8, h9, h10, h11⟩,
    fun ⟨h1, h2, h3, h4, h5, h6, h7, h8, h9, h10, h11⟩ => ⟨h1, h2, h3, h4, h5, h6, h7, h8, h9, h10, h11⟩⟩

/-- What leaves the station state and the line interface alone keeps the law. -/
theorem LineOk.congr {s t : State} (h : LineOk s.station s.lif) (station : t.station = s.station)
    (lif : t.lif = s.lif) : LineOk t.station t.lif := by
  rwa [station, lif]

/-- The Default column keeps the law in every station state. -/
theorem LineOk.default (st : Station) : LineOk st Lif.default := by
  constructor <;> simp [Lif.default, Timer.isRunning]

/-- A station on the line has no Default column to keep. -/
theorem not_offLine {st : Station} {p : Prop} (on : st.onLine = true) : st.onLine = false → p :=
  fun off => absurd (on.symm.trans off) Bool.noConfusion

@[simp] theorem isRunning_stopped : Timer.isRunning .stopped = false := rfl

@[simp] theorem isRunning_running (ms : Nat) : Timer.isRunning (.running ms) = true := rfl

section Operations

variable {st : Station} {l : Lif}

/-- Nothing is driven in LINE_GAP, in LINE_STUCK or past the start pattern (R5). -/
theorem LineOk.not_driving (h : LineOk st l)
    (off : l.line ≠ .idle ∧ (l.line ≠ .frame ∨ Config.firstSlotCell ≤ l.pos)) : l.startDrive = 0 := by
  by_contra drives
  obtain ⟨where_, -⟩ := h.driving (by omega)
  obtain ⟨not_idle, past⟩ := off
  rcases where_ with idle | ⟨frame, before⟩
  · exact not_idle idle
  · rcases past with not_frame | past
    · exact not_frame frame
    · omega

/-- The recovery timer runs in LINE_STUCK alone (R21). -/
theorem LineOk.recovery_stopped (h : LineOk st l) (off : l.line ≠ .stuck) :
    l.recoveryTimer.isRunning = false :=
  Bool.eq_false_iff.mpr fun runs => off (h.recovery runs)

theorem LineOk.discard (h : LineOk st l) (on : st.onLine = true) : LineOk st l.discard :=
  { h with offLine := not_offLine on }

theorem LineOk.stuckSees (h : LineOk st l) (on : st.onLine = true) (x : Sample) :
    LineOk st (l.stuckSees x) := by
  unfold Lif.stuckSees
  split
  · exact { h with stuck := fun _ => rfl, offLine := not_offLine on }
  · exact h

theorem LineOk.edge (h : LineOk st l) (on : st.onLine = true) : LineOk st l.edge := by
  unfold Lif.edge
  split
  · exact h
  · exact { h with stuck := fun stuck => absurd stuck ‹_›, offLine := not_offLine on }

/-- A start is taken from LINE_IDLE or LINE_GAP (R3, R4). -/
theorem LineOk.takeStart (h : LineOk st l) (on : st.onLine = true) (start : l.line ≠ .stuck) :
    LineOk st l.takeStart :=
  { h with
    pos := Nat.zero_le _
    recovery := fun runs => absurd (h.recovery runs) start
    stuck := fun stuck => nomatch stuck
    offLine := not_offLine on
    driving := fun drives => ⟨.inr ⟨rfl, Nat.zero_lt_succ _⟩, (h.driving drives).2⟩ }

theorem LineOk.fall (h : LineOk st l) (on : st.onLine = true) : LineOk st l.fall := by
  have line : l.edge.line = l.line := by unfold Lif.edge; split <;> rfl
  unfold Lif.fall
  split
  · rename_i start
    refine (h.edge on).takeStart on fun stuck => ?_
    simp [Lif.edgeStarts, ← line, stuck] at start
  · split
    · exact { h.edge on with
        gapCount := Nat.zero_le _, gapLen := .inr rfl, offLine := not_offLine on }
    · exact h.edge on

/-- A false start leaves nothing driven (R4). -/
theorem LineOk.falseStart (h : LineOk st l) (on : st.onLine = true) (frame : l.line = .frame) :
    LineOk st l.falseStart :=
  { h with
    gapCount := Nat.zero_le _
    gapLen := .inr rfl
    startDrive := Nat.zero_le _
    recovery := fun runs => absurd (frame.symm.trans (h.recovery runs)) (by decide)
    stuck := fun stuck => nomatch stuck
    offLine := not_offLine on
    driving := fun drives => absurd drives (Nat.lt_irrefl 0) }

/-- A confirmed start goes to the first presence cell with nothing driven any more (R4, R6). -/
theorem LineOk.confirmStart (h : LineOk st l) (on : st.onLine = true) :
    LineOk st { l with pos := Config.firstSlotCell, startDrive := 0 } :=
  { h with
    pos := by simp [Config.firstSlotCell]
    startDrive := Nat.zero_le _
    offLine := not_offLine on
    driving := fun drives => absurd drives (Nat.lt_irrefl 0) }

theorem LineOk.gapCell (h : LineOk st l) (on : st.onLine = true) (x : Sample) :
    LineOk st (l.gapCell x) := by
  unfold Lif.gapCell
  split
  · have len := h.gapLen
    exact { h with gapCount := by show min _ _ ≤ 104; omega, offLine := not_offLine on }
  · exact { h with gapCount := Nat.zero_le _, offLine := not_offLine on }

theorem LineOk.stuckCell (h : LineOk st l) (on : st.onLine = true) (stuck : l.line = .stuck)
    (x : Sample) : LineOk st (l.stuckCell x) := by
  unfold Lif.stuckCell
  (repeat' split)
  case isTrue.isTrue | isFalse.isFalse => exact h
  all_goals exact { h with recovery := fun _ => stuck, offLine := not_offLine on }

/-- One cell less of the start pattern is left to drive (R5). -/
theorem LineOk.driveCell (h : LineOk st l) (on : st.onLine = true) :
    LineOk st { l with startDrive := l.startDrive - 1 } :=
  { h with
    startDrive := by have := h.startDrive; show l.startDrive - 1 ≤ 4; omega
    offLine := not_offLine on
    driving := fun drives => h.driving (by have : 0 < l.startDrive - 1 := drives; omega) }

theorem LineOk.enterStuck (h : LineOk st l) (on : st.onLine = true) : LineOk st l.enterStuck :=
  { h with
    startDrive := Nat.zero_le _
    recovery := fun _ => rfl
    stuck := fun _ => rfl
    offLine := not_offLine on
    driving := fun drives => absurd drives (Nat.lt_irrefl 0) }

/-- LINE_IDLE is entered from LINE_GAP, or from LINE_STUCK with the recovery timer stopped (R3, R21). -/
theorem LineOk.goIdle (h : LineOk st l) (on : st.onLine = true) {recovery : Timer}
    (stopped : recovery.isRunning = false) (off : l.line = .gap ∨ l.line = .stuck) :
    LineOk st { l with line := .idle, recoveryTimer := recovery } :=
  { h with
    recovery := fun runs => absurd (stopped.symm.trans runs) Bool.noConfusion
    stuck := fun stuck => nomatch stuck
    offLine := not_offLine on
    driving := fun drives => by
      have none := h.not_driving (by rcases off with e | e <;> simp [e])
      have : 0 < l.startDrive := drives
      omega }

theorem LineOk.countVoid (h : LineOk st l) (on : st.onLine = true) : LineOk st l.countVoid := by
  unfold Lif.countVoid
  split
  · have below : l.voidCount + 1 < 8 := ‹_›
    exact { h with voidCount := by show l.voidCount + 1 ≤ 7; omega, offLine := not_offLine on }
  · exact { h with
      voidCount := Nat.zero_le _, backoff := by simp, offLine := not_offLine on }

/-- A frame's end, valid or void, goes to LINE_GAP with length 6 (R12, R13). -/
theorem LineOk.endFrame (h : LineOk st l) (on : st.onLine = true) (frame : l.line = .frame)
    (check : l.pos = Config.checkCell) :
    LineOk st { l with line := .gap, gapCount := 0, gapLen := Config.shortGap } :=
  { h with
    gapCount := Nat.zero_le _
    gapLen := .inl rfl
    recovery := fun runs => absurd (frame.symm.trans (h.recovery runs)) (by decide)
    stuck := fun stuck => nomatch stuck
    offLine := not_offLine on
    driving := fun drives => by
      have none := h.not_driving ⟨by simp [frame], .inr (by rw [check]; decide)⟩
      have : 0 < l.startDrive := drives
      omega }

theorem LineOk.endVoid (h : LineOk st l) (on : st.onLine = true) (frame : l.line = .frame)
    (check : l.pos = Config.checkCell) : LineOk st l.endVoid := by
  have same : l.countVoid.line = l.line ∧ l.countVoid.pos = l.pos := by
    unfold Lif.countVoid; split <;> exact ⟨rfl, rfl⟩
  exact ((h.countVoid on).discard on).endFrame on (same.1.trans frame) (same.2.trans check)

/-- The valid end restarts the refresh timer in ACTIVE alone (R17). -/
theorem LineOk.endValid (h : LineOk st l) (on : st.onLine = true) (frame : l.line = .frame)
    (check : l.pos = Config.checkCell) {restart : Bool} (active : restart = true → st = .active)
    (refresh : Nat) : LineOk st (l.endValid restart refresh) :=
  { h.endFrame on frame check with
    voidCount := Nat.zero_le _
    offLine := not_offLine on
    refresh := fun runs => by
      cases restart with
      | true => exact active rfl
      | false => exact h.refresh runs }

/-- The step out of LISTEN with nothing driven: ACTIVE, or OBSERVER with the refresh timer stopped
(R29). -/
theorem LineOk.leaveListen (h : LineOk st l) (still : l.startDrive = 0) {st' : Station}
    (on : st'.onLine = true) {refresh announce census : Bool} {timer : Timer}
    (active : timer.isRunning = true → st' = .active) :
    LineOk st'
      { l with refresh := refresh, announce := announce, census := census, refreshTimer := timer } :=
  { h with
    refresh := active
    offLine := not_offLine on
    driving := fun drives => absurd (still ▸ drives) (Nat.lt_irrefl 0) }

end Operations

theorem LineOk.frameCell {s : State} (h : LineOk s.station s.lif) (on : s.station.onLine = true)
    (frame : s.lif.line = .frame) (x : Sample) : LineOk s.station (frameCell x s) := by
  have pair (past : 5 ≤ s.lif.pos) : s.lif.startDrive = 0 :=
    h.not_driving ⟨by simp [frame], .inr past⟩
  rcases cellAt_cases s.lif.pos with ⟨-, cell⟩ | ⟨k, at_, cell⟩ | ⟨k, at_, cell⟩ | ⟨-, cell⟩
  · have drives := h.driveCell on
    have pos : (if x = .free then 4 else min (s.lif.pos + 1) 3) < 5 := by split <;> omega
    rw [frameCell_start x cell]
    exact { drives with
      pos := Nat.le_trans (Nat.le_of_lt pos) (by decide)
      offLine := not_offLine on
      driving := fun d => ⟨.inr ⟨frame, pos⟩, (drives.driving d).2⟩ }
  · have still := pair (by omega)
    rw [frameCell_presence x cell]
    exact { h with
      pos := by show s.lif.pos + 1 ≤ 101; omega
      offLine := not_offLine on
      driving := fun d => absurd (still ▸ d) (Nat.lt_irrefl 0) }
  · have still := pair (by omega)
    rw [frameCell_level x cell]
    exact { h with
      pos := by show s.lif.pos + 1 ≤ 101; omega
      offLine := not_offLine on
      driving := fun d => absurd (still ▸ d) (Nat.lt_irrefl 0) }
  · rw [frameCell_check x cell]
    exact h

theorem LineOk.cellTaken {s : State} (h : LineOk s.station s.lif) (on : s.station.onLine = true)
    (x : Sample) : LineOk s.station (cellTaken x s) := by
  unfold Machine.cellTaken
  split
  · exact h.driveCell on
  · exact h.frameCell on ‹_› x
  · exact h.gapCell on x
  · exact h.stuckCell on ‹_› x

end Sys2Proof.Machine

namespace Sys2Proof.Machine

open Sys2Proof

theorem Station.onLine_iff {st : Station} :
    st.onLine = true ↔ st = .listen ∨ st = .active ∨ st = .observer := by
  cases st <;> simp [Station.onLine]

/-! What each command of the line leaves at the line interface. -/

theorem lineFalls_lif (s : State) :
    (lineFalls s).lif = if s.station.onLine then s.lif.fall else s.lif := by
  unfold lineFalls
  dsimp only
  split <;> simp

theorem sampleCell_lif (x : Sample) (s : State) :
    (sampleCell x s).lif = if s.station.onLine then (cellTaken x s).stuckSees x else s.lif := by
  unfold sampleCell
  dsimp only
  split <;> simp

/-- A start pattern is judged on the line, before the first presence cell (R4). -/
def State.InStart (s : State) : Prop :=
  s.station.onLine = true ∧ s.lif.line = .frame ∧ s.lif.pos < Config.firstSlotCell

theorem startPatternEnds_of_not_inStart (run : Nat) (cell : Sample) {s : State} (h : ¬ s.InStart) :
    startPatternEnds run cell s = seeLine cell s := by
  refine if_neg fun now => h ?_
  simpa [State.InStart, and_assoc] using now

theorem startPatternEnds_of_inStart (run : Nat) (cell : Sample) {s : State} (h : s.InStart) :
    startPatternEnds run cell s =
      if goodStart run cell then
        frameBegins ((seeLine cell s).setLif
          { s.lif.stuckSees cell with pos := Config.firstSlotCell, startDrive := 0 })
      else (seeLine cell s).setLif (s.lif.stuckSees cell).falseStart := by
  refine if_pos ?_
  simpa [State.InStart, and_assoc] using h

/-- The stuck timer may expire: on the line, running, and not in LINE_STUCK (R20). -/
def State.StuckDue (s : State) : Prop :=
  s.station.onLine = true ∧ s.lif.stuckTimer.isRunning = true ∧ s.lif.line ≠ .stuck

theorem stuckExpires_of_not_due {s : State} (h : ¬ s.StuckDue) : stuckExpires s = s := by
  refine if_neg fun now => h ?_
  simpa [State.StuckDue, and_assoc] using now

theorem stuckExpires_of_due {s : State} (h : s.StuckDue) :
    stuckExpires s =
      if s.lif.line = .frame then
        if (contended s).isEmpty then
          reportStuck ((withdrawClaims (clearInFlight s)).setLif s.lif.enterStuck)
        else
          eitherOrder Config.stuckRecordFirst reportStuck (reportContest (contended s))
            ((withdrawClaims (clearInFlight s)).setLif s.lif.enterStuck)
      else reportStuck (s.setLif s.lif.enterStuck) := by
  refine if_pos ?_
  simpa [State.StuckDue, and_assoc] using h

theorem stuckExpires_lif_of_due {s : State} (h : s.StuckDue) :
    (stuckExpires s).lif = s.lif.enterStuck := by
  rw [stuckExpires_of_due h]
  unfold eitherOrder
  dsimp only
  (repeat' split) <;> simp

/-- The recovery timer may expire: on the line, in LINE_STUCK and running (R21). -/
def State.RecoveryDue (s : State) : Prop :=
  s.station.onLine = true ∧ s.lif.line = .stuck ∧ s.lif.recoveryTimer.isRunning = true

theorem recoveryExpires_of_not_due {s : State} (h : ¬ s.RecoveryDue) : recoveryExpires s = s := by
  refine if_neg fun now => h ?_
  simpa [State.RecoveryDue, and_assoc] using now

theorem recoveryExpires_of_due {s : State} (h : s.RecoveryDue) :
    recoveryExpires s =
      generate (.line .clear) (s.setLif { s.lif with line := .idle, recoveryTimer := .stopped }) := by
  refine if_pos ?_
  simpa [State.RecoveryDue, and_assoc] using h

/-- The gap is complete (R3). -/
def State.GapDone (s : State) : Prop :=
  s.station.onLine = true ∧ s.lif.line = .gap ∧ s.lif.gapLen ≤ s.lif.gapCount

theorem gapCompletes_of_not_done {s : State} (h : ¬ s.GapDone) : gapCompletes s = s := by
  refine if_neg fun now => h ?_
  simpa [State.GapDone, and_assoc] using now

theorem gapCompletes_of_done {s : State} (h : s.GapDone) :
    gapCompletes s = s.setLif { s.lif with line := .idle } := by
  refine if_pos ?_
  simpa [State.GapDone, and_assoc] using h

theorem mayStart_iff (s : State) :
    mayStart s = true ↔
      s.lif.line = .idle ∧ s.lif.backoff = false
        ∧ (s.station = .active
              ∧ ((∃ c, (s.chans.get c).state = .owned ∧ (s.chans.get c).pending ≠ [])
                  ∨ s.lif.refresh = true ∨ s.lif.announce = true)
            ∨ s.station = .listen ∧ s.lif.census = true) := by
  simp [mayStart, transmit, and_assoc, or_assoc]

theorem startFrame_of_may {s : State} (may : mayStart s = true) (still : s.lif.startDrive = 0) :
    startFrame s = s.setLif { s.lif with startDrive := 4 } := by
  refine if_pos ?_
  simp [may, still]

theorem startFrame_of_not_may {s : State} (h : mayStart s = false ∨ s.lif.startDrive ≠ 0) :
    startFrame s = s := by
  refine if_neg fun now => ?_
  rcases h with h | h <;> simp [h] at now

/-! ### The end of a frame (R12, R13) -/

/-- The state as the CHECK cell leaves it, before the frame is judged (R10, R11). -/
def State.checked (check : Sample) (s : State) : State :=
  (seeLine check s).setLif
    { s.lif.stuckSees check with
      fault := (s.lif.stuckSees check).fault || checkError s check }

theorem endFrame_of_not_atCheck (check : Sample) (between : List (List MidEvent)) {s : State}
    (h : ¬ s.AtCheck) : endFrame check between s = seeLine check s := by
  refine if_neg fun now => h ?_
  simpa [State.AtCheck, Config.checkCell, and_assoc] using now

theorem endFrame_of_atCheck (check : Sample) (between : List (List MidEvent)) {s : State}
    (h : s.AtCheck) :
    endFrame check between s =
      if check = .free ∧ s.lif.fault = false then endValid between (s.checked check)
      else endVoid (s.checked check) := by
  refine if_pos ?_
  simpa [State.AtCheck, Config.checkCell, and_assoc] using h

theorem endVoid_lif (s : State) : (endVoid s).lif = s.lif.endVoid := by
  unfold endVoid eitherOrder
  dsimp only
  (repeat' split) <;> simp

theorem endValid_listen (between : List (List MidEvent)) {s : State} (h : s.station = .listen) :
    endValid between s = censusFrame (countValid s) := by
  simp [endValid, h]

theorem endValid_active (between : List (List MidEvent)) {s : State} (h : s.station = .active) :
    endValid between s = acceptFrame between (consumeHeads (countValid s)) := by
  simp [endValid, h]

theorem endValid_observer (between : List (List MidEvent)) {s : State} (h : s.station = .observer) :
    endValid between s = acceptFrame between (countValid s) := by
  simp [endValid, h]

end Sys2Proof.Machine

/-! ### The law of the line interface, command by command -/

namespace Sys2Proof.Machine

open Sys2Proof

/-- What the law of the line interface reads. -/
def lineView (s : State) : Station × Lif := (s.station, s.lif)

theorem LineOk.of_view {s t : State} (h : LineOk s.station s.lif) (same : lineView t = lineView s) :
    LineOk t.station t.lif := by
  obtain ⟨station, lif⟩ := Prod.mk.inj same
  rwa [station, lif]

theorem LineOk.frameBegins {s : State} (h : LineOk s.station s.lif) :
    LineOk (frameBegins s).station (frameBegins s).lif :=
  h.of_view (by simp [lineView])

theorem LineOk.startPatternEnds {s : State} (h : LineOk s.station s.lif) (run : Nat) (cell : Sample) :
    LineOk (startPatternEnds run cell s).station (startPatternEnds run cell s).lif := by
  by_cases inStart : s.InStart
  · obtain ⟨on, frame, -⟩ := id inStart
    have seen := h.stuckSees on cell
    have line : (s.lif.stuckSees cell).line = .frame := by
      unfold Lif.stuckSees; split <;> exact frame
    rw [startPatternEnds_of_inStart run cell inStart]
    split
    · exact LineOk.frameBegins (s := (seeLine cell s).setLif _) (by simpa using seen.confirmStart on)
    · simpa using seen.falseStart on line
  · rw [startPatternEnds_of_not_inStart run cell inStart]
    exact h.of_view (by simp [lineView])

theorem LineOk.startFrame {s : State} (h : LineOk s.station s.lif) :
    LineOk (startFrame s).station (startFrame s).lif := by
  by_cases may : mayStart s = true ∧ s.lif.startDrive = 0
  · obtain ⟨idle, -, who⟩ := (mayStart_iff s).mp may.1
    have station : s.station = .active ∨ s.station = .listen := who.imp And.left And.left
    rw [startFrame_of_may may.1 may.2]
    exact { h with
      startDrive := Nat.le_refl 4
      offLine := not_offLine (by rcases station with e | e <;> simp [e, Station.onLine])
      driving := fun _ => ⟨.inl idle, station⟩ }
  · rw [startFrame_of_not_may (by
      by_cases m : mayStart s = true
      · exact .inr fun still => may ⟨m, still⟩
      · exact .inl (by simpa using m))]
    exact h

theorem LineOk.refreshExpires {s : State} (h : LineOk s.station s.lif) :
    LineOk (refreshExpires s).station (refreshExpires s).lif := by
  unfold Machine.refreshExpires
  split
  · rename_i due
    have active : s.station = .active := by simp at due; exact due.1
    exact { h with
      refresh := fun runs => nomatch runs
      offLine := not_offLine (by simp [active, Station.onLine]) }
  · exact h

theorem LineOk.censusWaitExpires {s : State} (h : LineOk s.station s.lif) :
    LineOk (censusWaitExpires s).station (censusWaitExpires s).lif := by
  unfold Machine.censusWaitExpires
  split
  · rename_i due
    have listen : s.station = .listen := by simp at due; exact due.1
    exact { h with offLine := not_offLine (by simp [listen, Station.onLine]) }
  · exact h

theorem LineOk.backoffExpires {s : State} (h : LineOk s.station s.lif) :
    LineOk (backoffExpires s).station (backoffExpires s).lif := by
  unfold Machine.backoffExpires
  split
  · rename_i due
    have on : s.station.onLine = true := by simp at due; exact due.1
    exact { h with backoff := by simp, offLine := not_offLine on }
  · exact h

theorem LineOk.takeWrite {s : State} (h : LineOk s.station s.lif) (code : Byte) (rest : List Byte)
    (stn : BitVec 4) (addr : BitVec 2) :
    LineOk (takeWrite code rest stn addr s).station (takeWrite code rest stn addr s).lif := by
  rcases takeWrite_keeps lineView (fun _ _ => rfl) (fun _ _ => rfl)
    (by simp [requestActions, lineView]) code rest stn addr s with ⟨e, -⟩ | same
  · rw [e]
    exact LineOk.default _
  · exact h.of_view same

/-- Every event between deliveries keeps the law of the line interface. -/
theorem LineOk.takeMid {s : State} (h : LineOk s.station s.lif) (e : MidEvent) :
    LineOk (takeMid e s).station (takeMid e s).lif := by
  cases e with
  | powerOnReset | pinReset => exact LineOk.default _
  | fallingEdge =>
    simp only [Machine.takeMid, lineFalls_keeps, lineFalls_lif]
    split
    · exact h.fall ‹_›
    · exact h
  | startPatternEnd run cell => exact h.startPatternEnds run cell
  | gapComplete =>
    by_cases done : s.GapDone
    · simp only [Machine.takeMid, gapCompletes_of_done done]
      obtain ⟨on, gap, -⟩ := done
      exact h.goIdle on (h.recovery_stopped (by simp [gap])) (.inl gap)
    · simpa only [Machine.takeMid, gapCompletes_of_not_done done] using h
  | frameStart => exact h.startFrame
  | refreshTimerExpiry => exact h.refreshExpires
  | backoffTimerExpiry => exact h.backoffExpires
  | stuckTimerExpiry =>
    by_cases due : s.StuckDue
    · simp only [Machine.takeMid, stuckExpires_keeps, stuckExpires_lif_of_due due]
      exact h.enterStuck due.1
    · simpa only [Machine.takeMid, stuckExpires_of_not_due due] using h
  | recoveryTimerExpiry =>
    by_cases due : s.RecoveryDue
    · obtain ⟨on, stuck, -⟩ := id due
      simp only [Machine.takeMid, recoveryExpires_of_due due]
      simpa using h.goIdle on isRunning_stopped (.inr stuck)
    · simpa only [Machine.takeMid, recoveryExpires_of_not_due due] using h
  | cellSampled x =>
    simp only [Machine.takeMid, sampleCell_keeps, sampleCell_lif]
    split
    · exact (h.cellTaken ‹_› x).stuckSees ‹_› x
    · exact h
  | request code w stn addr =>
    simp only [Machine.takeMid, addressed]
    split
    · exact h.takeWrite code w.rest stn addr
    · exact h
  | responseRead r => exact h.of_view (addressed_keeps lineView _ _ s (by simp [lineView]))
  | _ => exact h.of_view (by simp [lineView, Machine.takeMid])

/-! ### The end of LOADING and of a frame -/

/-- LOADING ends from `s` in `t`: with the fallback profile after a fault, else with a profile that was
read from its bytes (R154, R156, R158). -/
def EndsLoading (s t : State) : Prop :=
  ∃ l p, t = endLoading p l.status (s.setLoader l)
    ∧ (l.status = .fault ∧ p = fallbackProfile
      ∨ l.status = .ok ∧ ∃ image, decodeProfile image = some p)

theorem failLoading_ends (reason : FaultReason) (s : State) (l : Loader) :
    EndsLoading s (failLoading reason (s.setLoader l)) :=
  ⟨{ l with phase := .done, status := .fault, reason := reason, retained := [], selected := false },
    fallbackProfile, rfl, .inl ⟨rfl, rfl⟩⟩

theorem passLoading_ends {p : Profile} {image : List Byte} (h : decodeProfile image = some p)
    (s : State) (l : Loader) : EndsLoading s (passLoading p (s.setLoader l)) :=
  ⟨{ l with status := .ok }, p, rfl, .inr ⟨rfl, image, h⟩⟩

theorem finishRead_ends (s : State) (l : Loader) : EndsLoading s (finishRead (s.setLoader l)) := by
  unfold finishRead
  dsimp only
  split
  · exact failLoading_ends _ s { l with phase := .done, selected := false }
  · split
    · exact passLoading_ends ‹_› s { l with phase := .done, selected := false }
    · exact failLoading_ends _ s { l with phase := .done, selected := false }

/-- An image byte moves the loader alone, or ends LOADING (R151 to R156). -/
theorem takeImageByte_cases (b : Byte) (s : State) :
    (∃ l, takeImageByte b s = s.setLoader l)
      ∨ s.station = .loading ∧ EndsLoading s (takeImageByte b s) := by
  unfold takeImageByte
  split
  · have loading : s.station = .loading := ‹_›
    split
    · unfold takeHeaderByte
      dsimp only
      (repeat' split)
      all_goals first | exact .inl ⟨_, rfl⟩ | exact .inr ⟨loading, failLoading_ends _ s _⟩
    · simp only [takeProfileByte]
      by_cases last : imageLength s.loader.count ≤ s.loader.pos + 1
      · exact .inr ⟨loading, by simpa [last] using finishRead_ends s _⟩
      · exact .inl ⟨_, if_neg last⟩
    all_goals exact .inl ⟨s.loader, rfl⟩
  · exact .inl ⟨s.loader, rfl⟩

theorem endLoading_station (p : Profile) (status : ImageStatus) (s : State) :
    (endLoading p status s).station = .listen := by
  unfold endLoading
  dsimp only
  split <;> simp

theorem endLoading_lif (p : Profile) (status : ImageStatus) (s : State) :
    (endLoading p status s).lif =
      { s.lif with
        line := .gap, gapCount := 0, gapLen := Config.longGap
        stuckTimer := if s.pins.evl = .free then .stopped else .running Config.stuckMs } := by
  unfold endLoading
  dsimp only
  split <;> simp <;> rfl

/-- The line interface of a station that enters LISTEN from the Default column (R2). -/
theorem LineOk.enterListen (timer : Timer) :
    LineOk .listen
      { Lif.default with
        line := .gap, gapCount := 0, gapLen := Config.longGap, stuckTimer := timer } := by
  constructor <;> simp [Lif.default, Config.longGap, Station.onLine]

theorem LineOk.takeImageByte {s : State} (h : LineOk s.station s.lif) (b : Byte) :
    LineOk (takeImageByte b s).station (takeImageByte b s).lif := by
  rcases takeImageByte_cases b s with ⟨l, e⟩ | ⟨loading, l, p, e, -⟩
  · rw [e]
    exact h
  · have default : s.lif = Lif.default := h.offLine (by simp [loading, Station.onLine])
    rw [e, endLoading_station, endLoading_lif]
    simpa [default] using LineOk.enterListen _

theorem LineOk.resetEnds {s : State} (h : LineOk s.station s.lif) (stn : BitVec 4)
    (addr : BitVec 2) : LineOk (resetEnds stn addr s).station (resetEnds stn addr s).lif := by
  unfold Machine.resetEnds
  split
  · have default : s.lif = Lif.default := h.offLine (by simp [‹s.station = _›, Station.onLine])
    rw [leaveReset_keeps stn addr s |>.2.2.1, default]
    exact LineOk.default _
  · exact h

theorem LineOk.deliver {s : State} (h : LineOk s.station s.lif) (tr : Transition) :
    LineOk (deliver tr s).station (deliver tr s).lif :=
  h.of_view (by simp [lineView])

theorem LineOk.discardRecord {s : State} (h : LineOk s.station s.lif) (on : s.station.onLine = true) :
    LineOk (discardRecord s).station (discardRecord s).lif := by
  simpa [Machine.discardRecord] using h.discard on

/-- The station state that the step out of LISTEN enters (R29). -/
def Owner.joins (o : Owner) : Station := if o.imageFault then .observer else .active

theorem leaveListen_station (s : State) : (leaveListen s).station = s.owner.joins := by
  cases h : s.owner.imageFault <;> simp [leaveListen, Owner.joins, h, enterObserver, enterActive]

/-- What the step out of LISTEN leaves at the line interface (R29). -/
theorem leaveListen_lif (s : State) :
    (leaveListen s).lif =
      { s.lif with
        census := false
        refresh := !s.owner.imageFault && s.lif.refresh
        announce := !s.owner.imageFault && (s.lif.announce || anyOwned (startOwnedChannels s))
        refreshTimer :=
          if s.owner.imageFault ∨ s.profile.refresh = 0 then .stopped
          else .running (10 * s.profile.refresh) } := by
  cases h : s.owner.imageFault <;>
    simp [leaveListen, h, enterObserver, enterActive, anyOwned, startOwnedChannels]

theorem LineOk.censusFrame {s : State} (h : LineOk s.station s.lif) (still : s.lif.startDrive = 0)
    (listen : s.station = .listen) :
    LineOk (censusFrame s).station (censusFrame s).lif := by
  have on : s.station.onLine = true := by simp [listen, Station.onLine]
  unfold Machine.censusFrame
  dsimp only
  split
  · have joined : (countCensus s).owner.joins.onLine = true := by
      unfold Owner.joins; split <;> rfl
    have kept : LineOk (countCensus s).owner.joins (completeCensus (countCensus s)).lif := by
      rw [completeCensus, leaveListen_lif]
      simpa using h.leaveListen still joined fun runs => by
        unfold Owner.joins
        split
        · simp_all
        · rfl
    have station : (completeCensus (countCensus s)).station = (countCensus s).owner.joins := by
      rw [completeCensus, leaveListen_station]
      simp
    exact LineOk.discardRecord (station ▸ kept) (by rw [station]; exact joined)
  · exact LineOk.discardRecord (h.of_view (by simp [lineView])) (by simpa using on)

theorem LineOk.acceptFrame {s : State} (h : LineOk s.station s.lif) (on : s.station.onLine = true)
    (between : List (List MidEvent)) :
    LineOk (acceptFrame between s).station (acceptFrame between s).lif :=
  kept_by_deliverAll (P := fun s => LineOk s.station s.lif) (fun e _ h => h.takeMid e)
    (fun tr _ h => h.deliver tr) _ _ ((h.of_view (by simp [lineView])).discardRecord (by simpa using on))

@[simp] theorem checked_keeps (check : Sample) (s : State) :
    (s.checked check).station = s.station ∧ (s.checked check).cause = s.cause
      ∧ (s.checked check).stationCode = s.stationCode ∧ (s.checked check).addrCode = s.addrCode
      ∧ (s.checked check).profile = s.profile ∧ (s.checked check).loader = s.loader
      ∧ (s.checked check).owner = s.owner ∧ (s.checked check).slots = s.slots
      ∧ (s.checked check).chans = s.chans ∧ (s.checked check).soft = s.soft
      ∧ (s.checked check).inputs = s.inputs ∧ (s.checked check).host = s.host
      ∧ (s.checked check).patterns = s.patterns ∧ (s.checked check).conds = s.conds
      ∧ (s.checked check).blink = s.blink ∧ (s.checked check).journal = s.journal
      ∧ (s.checked check).port = s.port ∧ (s.checked check).pins = { s.pins with evl := check }
      ∧ (s.checked check).freeIndex = s.freeIndex ∧ (s.checked check).pending = s.pending := by
  simp [State.checked, seeLine]

theorem checked_lif (check : Sample) (s : State) :
    (s.checked check).lif =
      { s.lif with
        stuckTimer := if check = .free then .stopped else s.lif.stuckTimer
        fault := s.lif.fault || checkError s check } := by
  unfold State.checked Lif.stuckSees
  split <;> simp

theorem countValid_lif (s : State) :
    (countValid s).lif =
      s.lif.endValid (s.station == .active && !(s.profile.refresh == 0)) s.profile.refresh := by
  simp [countValid]

theorem LineOk.checked {s : State} (h : LineOk s.station s.lif) (on : s.station.onLine = true)
    (check : Sample) : LineOk (s.checked check).station (s.checked check).lif := by
  have seen := h.stuckSees on check
  simpa [State.checked] using
    { seen with offLine := not_offLine on : LineOk s.station
      { s.lif.stuckSees check with
        fault := (s.lif.stuckSees check).fault || checkError s check } }

theorem LineOk.countValid {s : State} (h : LineOk s.station s.lif) (on : s.station.onLine = true)
    (frame : s.lif.line = .frame) (check : s.lif.pos = Config.checkCell) :
    LineOk (countValid s).station (countValid s).lif := by
  rw [countValid_lif, (countValid_keeps s).1]
  exact h.endValid on frame check (fun restart => by simp at restart; exact restart.1) _

theorem LineOk.takeFrameEnd {s : State} (h : LineOk s.station s.lif) (check : Sample)
    (between : List (List MidEvent)) :
    LineOk (Machine.endFrame check between s).station (Machine.endFrame check between s).lif := by
  by_cases atCheck : s.AtCheck
  · obtain ⟨on, frame, pos⟩ := id atCheck
    have on' : (s.checked check).station.onLine = true := by simpa using on
    have frame' : (s.checked check).lif.line = .frame := by simpa [checked_lif] using frame
    have pos' : (s.checked check).lif.pos = Config.checkCell := by rw [checked_lif]; exact pos
    have checked := h.checked on check
    have still := checked.not_driving ⟨by simp [frame'], .inr (by rw [pos']; decide)⟩
    have counted := checked.countValid on' frame' pos'
    rw [endFrame_of_atCheck check between atCheck]
    split
    · rcases Station.onLine_iff.mp on' with station | station | station
      · rw [endValid_listen between station]
        exact counted.censusFrame (by simpa [countValid_lif, Lif.endValid] using still)
          (by simpa using station)
      · rw [endValid_active between station]
        exact LineOk.acceptFrame (counted.of_view (by simp [lineView])) (by simpa using on') between
      · rw [endValid_observer between station]
        exact counted.acceptFrame (by simpa using on') between
    · rw [endVoid_lif, (endVoid_keeps _).1]
      exact checked.endVoid on' frame' pos'
  · rw [endFrame_of_not_atCheck check between atCheck]
    exact h.of_view (by simp [lineView])

/-- Settles O60: each command keeps the law of the line interface, by the operation it is. -/
theorem lineLawKept : Obligations.LineLawKept := by
  intro s t law hs
  rw [lineLaw_iff] at law ⊢
  refine kept_by_step (P := fun s => LineOk s.station s.lif) (fun _ _ h => h) ?_ law hs
  exact fun c s t h he => kept_by_exec (P := fun s => LineOk s.station s.lif)
    (fun e _ h => h.takeMid e) (fun stn addr _ h => h.resetEnds stn addr)
    (fun b _ h => h.takeImageByte b) (fun _ h => h.censusWaitExpires)
    (fun x between _ h => h.takeFrameEnd x between) h he

end Sys2Proof.Machine

/-! ### How a channel may move

Outside the transmit side's own operations a channel changes only by taking levels from its source (R60,
R64). `MovesOnly` says so of two states, and which sources may have moved between them; the ownership
state, the sent level and the in-flight mark stay then, and a channel of another source stays whole. -/

namespace Sys2Proof.Machine

open Sys2Proof

/-- From `s` to `t` channels have only taken levels, and only those whose source may have moved. -/
def MovesOnly (moved : Source → Prop) (s t : State) : Prop :=
  t.profile = s.profile
    ∧ ∀ c, ∃ levels : List Level, t.chans.get c = levels.foldl Channel.take (s.chans.get c)
      ∧ (¬ moved (s.profile.chans.get c).source → levels = [])

/-- The sources of input conditioning. -/
def Source.ofInput (src : Source) : Prop := ∃ i, src = .input i

/-- The sources that a delivery can move: the pattern outputs and the condition latches (R74, R75). -/
def Source.ofDelivery (src : Source) : Prop := src = .conditions ∨ ∃ p, src = .pattern p

theorem foldl_take_keeps (levels : List Level) (ch : Channel) :
    (levels.foldl Channel.take ch).state = ch.state ∧ (levels.foldl Channel.take ch).sent = ch.sent
      ∧ (levels.foldl Channel.take ch).inFlight = ch.inFlight := by
  induction levels generalizing ch with
  | nil => simp
  | cons v levels ih =>
    obtain ⟨state, sent, inFlight⟩ := ih (ch.take v)
    simp only [List.foldl_cons, state, sent, inFlight, Channel.take_keeps, and_self]

namespace MovesOnly

variable {moved moved' : Source → Prop} {s t u : State}

theorem of_eq (profile : t.profile = s.profile) (chans : t.chans = s.chans) : MovesOnly moved s t :=
  ⟨profile, fun c => ⟨[], by simp [chans]⟩⟩

theorem refl (s : State) : MovesOnly moved s s := of_eq rfl rfl

theorem trans (h : MovesOnly moved s t) (h' : MovesOnly moved t u) : MovesOnly moved s u := by
  refine ⟨h'.1.trans h.1, fun c => ?_⟩
  obtain ⟨levels, chan, idle⟩ := h.2 c
  obtain ⟨levels', chan', idle'⟩ := h'.2 c
  refine ⟨levels ++ levels', by rw [chan', chan, List.foldl_append], fun still => ?_⟩
  rw [idle still, idle' (by rwa [h.1]), List.nil_append]

theorem from_eq (h : MovesOnly moved t u) (profile : t.profile = s.profile)
    (chans : t.chans = s.chans) : MovesOnly moved s u :=
  (of_eq profile chans).trans h

theorem mono (h : MovesOnly moved s t) (imp : ∀ src, moved src → moved' src) : MovesOnly moved' s t :=
  ⟨h.1, fun c =>
    let ⟨levels, chan, idle⟩ := h.2 c
    ⟨levels, chan, fun still => idle fun moves => still (imp _ moves)⟩⟩

theorem profile (h : MovesOnly moved s t) : t.profile = s.profile := h.1

theorem keeps (h : MovesOnly moved s t) (c : Fin 16) :
    (t.chans.get c).state = (s.chans.get c).state ∧ (t.chans.get c).sent = (s.chans.get c).sent
      ∧ (t.chans.get c).inFlight = (s.chans.get c).inFlight := by
  obtain ⟨levels, chan, -⟩ := h.2 c
  rw [chan]
  exact foldl_take_keeps levels _

/-- A channel of a source that has not moved stands. -/
theorem chan_eq (h : MovesOnly moved s t) {c : Fin 16}
    (still : ¬ moved (s.profile.chans.get c).source) : t.chans.get c = s.chans.get c := by
  obtain ⟨levels, chan, idle⟩ := h.2 c
  rw [chan, idle still]
  rfl

theorem foldl {α : Type} {f : State → α → State} (each : ∀ s a, MovesOnly moved s (f s a))
    (l : List α) (s : State) : MovesOnly moved s (l.foldl f s) := by
  induction l generalizing s with
  | nil => exact refl s
  | cons a l ih => exact (each s a).trans (ih (f s a))

/-- What leaves the profile alone, and every channel but for one level of a source that moves. -/
theorem of_following {levels : List Level} {old : Level} {p : Source → Prop} [DecidablePred p]
    (profile : t.profile = s.profile)
    (chan : ∀ c, t.chans.get c =
      if p (s.profile.chans.get c).source then
        (s.chans.get c).following (s.profile.chans.get c).invert old levels
      else s.chans.get c) : MovesOnly p s t := by
  have takes : ∀ (levels : List Level) (ch : Channel) (invert : Bool) (old : Level),
      ∃ vs : List Level, ch.following invert old levels = vs.foldl Channel.take ch := by
    intro levels
    induction levels with
    | nil => exact fun ch _ _ => ⟨[], rfl⟩
    | cons v vs ih =>
      intro ch invert old
      rw [Channel.following_cons]
      split
      · exact ih ch invert v
      · obtain ⟨ws, e⟩ := ih (ch.take (v.through invert)) invert v
        exact ⟨v.through invert :: ws, e⟩
  refine ⟨profile, fun c => ?_⟩
  rw [chan c]
  split
  · obtain ⟨vs, e⟩ := takes levels (s.chans.get c) (s.profile.chans.get c).invert old
    exact ⟨vs, e, fun still => absurd ‹_› still⟩
  · exact ⟨[], rfl, fun _ => rfl⟩

end MovesOnly

/-! Which sources each operation moves. -/

theorem setCond_moves (d : Fin 7) (s : State) : MovesOnly (· = .conditions) s (setCond d s) :=
  .of_following (by simp) fun c => setCond_chan d s c

theorem generate_moves (body : RecordBody) (s : State) :
    MovesOnly (· = .conditions) s (generate body s) := by
  by_cases h : s.journal.records.length < 32
  · rw [generate_stores body s h]
    exact .of_eq rfl rfl
  · rw [generate_loses body s h]
    exact .from_eq (setCond_moves _ _) rfl rfl

theorem clearConds_moves (mask : Vector Bool 7) (s : State) :
    MovesOnly (· = .conditions) s (clearConds mask s) := by
  by_cases cleared : anyCond s = true ∧ anyCond (clearConds mask s) = false
  · refine .of_following (levels := [.released]) (old := sourceLevel s .conditions) (by simp)
      fun c => ?_
    rw [clearConds_chan, if_pos cleared]
    rfl
  · refine .of_following (levels := []) (old := .released) (by simp) fun c => ?_
    rw [clearConds_chan, if_neg cleared]
    simp

theorem setSoftLevel_moves (k : Fin 4) (v : Level) (s : State) :
    MovesOnly (· = .soft k) s (setSoftLevel k v s) :=
  .of_following (by simp) fun c => setSoftLevel_chan k v s c

theorem setInputOutput_moves (i : Fin 12) (v : Level) (s : State) :
    MovesOnly Source.ofInput s (setInputOutput i v s) :=
  (MovesOnly.of_following (p := (· = .input i)) (by simp) fun c => setInputOutput_chan i v s c).mono
    fun _ e => ⟨i, e⟩

theorem setPatternOutput_moves (p : Fin 8) (v : Level) (s : State) :
    MovesOnly Source.ofDelivery s (setPatternOutput p v s) :=
  (MovesOnly.of_following (p := (· = .pattern p)) (by simp)
    fun c => setPatternOutput_chan p v s c).mono fun _ e => .inr ⟨p, e⟩

theorem setInputRec_moves (i : Fin 12) (r : InputRec) (s : State) :
    MovesOnly Source.ofInput s (setInputRec i r s) := .of_eq rfl rfl

theorem modeActivation_moves (i : Fin 12) (s : State) :
    MovesOnly Source.ofInput s (modeActivation i s) := by
  unfold modeActivation
  split
  · exact setInputOutput_moves i _ s
  · exact setInputOutput_moves i _ s
  · exact (setInputOutput_moves i _ s).trans (setInputOutput_moves i _ _)

theorem modeDeactivation_moves (i : Fin 12) (s : State) :
    MovesOnly Source.ofInput s (modeDeactivation i s) := by
  unfold modeDeactivation
  split
  · exact setInputOutput_moves i _ s
  all_goals exact .refl s

theorem filterTakes_moves (i : Fin 12) (s : State) : MovesOnly Source.ofInput s (filterTakes i s) := by
  have recorded := setInputRec_moves i
    { s.inputs.get i with timer := .stopped, filtered := (s.inputs.get i).raw.level } s
  unfold filterTakes
  dsimp only
  split
  · exact recorded.trans (modeActivation_moves i _)
  · exact recorded.trans (modeDeactivation_moves i _)
  · exact recorded

theorem takeSample_moves (i : Fin 12) (raw : RawSample) (s : State) :
    MovesOnly Source.ofInput s (takeSample i raw s) := by
  unfold takeSample
  dsimp only
  (repeat' split)
  · exact setInputRec_moves i _ s
  · exact (setInputRec_moves i _ s).trans (filterTakes_moves i _)
  · exact setInputRec_moves i _ s

theorem firstSample_moves (i : Fin 12) (s : State) : MovesOnly Source.ofInput s (firstSample i s) :=
  (setInputRec_moves i _ s).trans (takeSample_moves i _ _)

theorem firstSamples_moves (s : State) : MovesOnly Source.ofInput s (firstSamples s) :=
  .foldl (fun s i => by split; exacts [firstSample_moves i s, .refl s]) _ s

theorem dropMainInput_moves (i : Fin 12) (s : State) :
    MovesOnly Source.ofInput s (dropMainInput i s) :=
  (setInputRec_moves i _ s).trans (setInputOutput_moves i _ _)

theorem onMain_moves {f : Fin 12 → State → State} (each : ∀ i s, MovesOnly Source.ofInput s (f i s))
    (s : State) : MovesOnly Source.ofInput s (onMain f s) :=
  .foldl (fun s i => by split; exacts [each i s, .refl s]) _ s

theorem hostPowerChanged_moves (before : HostPower) (s : State) :
    MovesOnly Source.ofInput s (hostPowerChanged before s) := by
  unfold hostPowerChanged
  (repeat' split)
  · exact onMain_moves dropMainInput_moves s
  · exact onMain_moves firstSample_moves s
  all_goals exact .refl s

theorem pinMoves_moves (i : Fin 12) (l : PinLevel) (s : State) :
    MovesOnly Source.ofInput s (pinMoves i l s) := by
  unfold pinMoves
  dsimp only
  split
  · exact .from_eq (takeSample_moves i _ _) rfl rfl
  · exact .of_eq rfl rfl

theorem filterExpires_moves (i : Fin 12) (s : State) :
    MovesOnly Source.ofInput s (filterExpires i s) := by
  unfold filterExpires
  split
  · exact filterTakes_moves i s
  · exact .refl s

theorem hostFilterExpires_moves (pin : HostPin) (s : State) :
    MovesOnly Source.ofInput s (hostFilterExpires pin s) := by
  unfold hostFilterExpires
  split
  · exact .from_eq (hostPowerChanged_moves _ _) rfl rfl
  · exact .refl s

theorem enterStep_moves (p : Fin 8) (k : Nat) (s : State) :
    MovesOnly Source.ofDelivery s (enterStep p k s) := .of_eq rfl rfl

theorem performAction_moves (p : Fin 8) (s : State) :
    MovesOnly Source.ofDelivery s (performAction p s) := by
  unfold performAction
  split
  · exact .refl s
  · exact (setPatternOutput_moves p _ s).trans (setPatternOutput_moves p _ _)
  all_goals exact setPatternOutput_moves p _ s

theorem matchRecord_moves (p : Fin 8) (stamp : Option (BitVec 16)) (s : State) :
    MovesOnly Source.ofDelivery s (matchRecord p stamp s) := by
  unfold matchRecord
  split
  · exact (generate_moves _ s).mono fun _ => .inl
  · exact .refl s

theorem complete_moves (p : Fin 8) (stamp : Option (BitVec 16)) (s : State) :
    MovesOnly Source.ofDelivery s (complete p stamp s) :=
  have latched : MovesOnly Source.ofDelivery s (setMatchLatch p s) := .of_eq rfl rfl
  latched.trans <| (matchRecord_moves p stamp _).trans <| (performAction_moves p _).trans <|
    enterStep_moves p 0 _

theorem advance_moves (p : Fin 8) (stamp : Option (BitVec 16)) (s : State) :
    MovesOnly Source.ofDelivery s (advance p stamp s) := by
  unfold advance
  split
  · exact enterStep_moves p _ s
  · exact complete_moves p stamp s

theorem retry_moves (p : Fin 8) (tr : Transition) (s : State) :
    MovesOnly Source.ofDelivery s (retry p tr s) := by
  unfold retry
  (repeat' split) <;> exact .of_eq rfl rfl

theorem patternTake_moves (p : Fin 8) (tr : Transition) (s : State) :
    MovesOnly Source.ofDelivery s (patternTake p tr s) := by
  unfold patternTake
  dsimp only
  split
  · exact .refl s
  · split
    · exact .refl s
    · exact advance_moves p _ s
    · exact .of_eq rfl rfl
    · exact .of_eq rfl rfl
    · exact (enterStep_moves p 0 s).trans (retry_moves p tr _)

theorem deliver_moves (tr : Transition) (s : State) :
    MovesOnly Source.ofDelivery s (deliver tr s) := by
  have latched : MovesOnly Source.ofDelivery s (latchStep tr s) := .of_eq (by simp) (by simp)
  have recorded : MovesOnly Source.ofDelivery (latchStep tr s) (journalStep tr (latchStep tr s)) := by
    unfold journalStep
    split
    · exact (generate_moves _ _).mono fun _ => .inl
    · exact .refl _
  exact latched.trans (recorded.trans (.foldl (fun s p => patternTake_moves p tr s) _ _))

theorem windowExpires_moves (p : Fin 8) (s : State) :
    MovesOnly Source.ofDelivery s (windowExpires p s) := .of_eq (by simp) (by simp)

theorem holdExpires_moves (p : Fin 8) (s : State) :
    MovesOnly Source.ofDelivery s (holdExpires p s) := by
  unfold holdExpires
  (repeat' split)
  · exact advance_moves p none s
  · exact enterStep_moves p 0 s
  all_goals exact .refl s

theorem quietExpires_moves (p : Fin 8) (s : State) :
    MovesOnly Source.ofDelivery s (quietExpires p s) := by
  unfold quietExpires
  (repeat' split)
  · exact advance_moves p none s
  all_goals exact .refl s

theorem ackPatternsMask_moves (mask : Byte) (s : State) :
    MovesOnly Source.ofDelivery s (ackPatternsMask mask s) := by
  refine .foldl (fun s p => ?_) _ s
  split
  · unfold ackPattern
    dsimp only
    split
    · exact .from_eq (setPatternOutput_moves p _ _) rfl rfl
    · exact .of_eq rfl rfl
  · exact .refl s

/-- Any source may have moved. -/
def Source.any (_ : Source) : Prop := True

/-- Every accepted request but RESTART moves channels by their sources alone (R168 to R172). -/
theorem requestActions_moves : ∀ act ∈ requestActions, ∀ tag ops s,
    MovesOnly Source.any s (act tag ops s) := by
  have respond (r : Response) (s : State) : MovesOnly Source.any s (respond r s) := .of_eq rfl rfl
  have any {moved : Source → Prop} {s t : State} (h : MovesOnly moved s t) :
      MovesOnly Source.any s t := h.mono fun _ _ => trivial
  have soft (k : Fin 4) (v : Level) (s : State) : MovesOnly Source.any s (setSoftLevel k v s) :=
    any (setSoftLevel_moves k v s)
  intro act mem tag ops s
  simp only [requestActions, List.mem_cons, List.not_mem_nil, or_false] at mem
  rcases mem with rfl | rfl | rfl | rfl | rfl | rfl | rfl | rfl | rfl | rfl | rfl
  case inr.inr.inr.inr.inr.inr.inl => exact (any (clearConds_moves _ s)).trans (respond _ _)
  case inr.inr.inr.inr.inr.inr.inr.inl => exact (any (ackPatternsMask_moves _ s)).trans (respond _ _)
  case inr.inr.inr.inr.inr.inr.inr.inr.inl => exact (soft _ _ s).trans (respond _ _)
  case inr.inr.inr.inr.inr.inr.inr.inr.inr.inl =>
    exact (soft _ _ s).trans ((soft _ _ _).trans (respond _ _))
  all_goals exact .of_eq (by simp) (by simp)

end Sys2Proof.Machine

/-! ### Reports: condition latches and journal records, one after another

Several blocks tell of an event by setting latches and handing records to the journal (R20, R28, R34, R47).
A list of such reports is taken here in one go: which records the journal takes, which latches stand
afterwards, and what the channels of the CONDITIONS source do. -/

namespace Sys2Proof.Machine

open Sys2Proof

/-- One report: a condition latch is set, or a record is generated. -/
inductive Report where
  | latch (c : Fin 7)
  | record (body : RecordBody)

/-- The report is made. -/
def Report.make : Report → State → State
  | .latch c => setCond c
  | .record body => generate body

/-- The record that a report generates. -/
def Report.body : Report → Option RecordBody
  | .latch _ => none
  | .record body => some body

/-- The reports are made in turn. -/
def reportAll (rs : List Report) (s : State) : State := rs.foldl (fun s r => r.make s) s

/-- The records of the reports, in turn. -/
def bodies (rs : List Report) : List RecordBody := rs.filterMap Report.body

/-- The records of the reports do not all fit in the journal (R140, R141). -/
def overflows (rs : List Report) (s : State) : Prop :=
  32 - s.journal.records.length < (bodies rs).length

/-- The reports set a condition latch, JOURNAL_LOST for a lost record included. -/
def setsAny (rs : List Report) (s : State) : Prop := (∃ d, .latch d ∈ rs) ∨ overflows rs s

@[simp] theorem bodies_nil : bodies [] = [] := rfl

@[simp] theorem bodies_latch (c : Fin 7) (rs : List Report) : bodies (.latch c :: rs) = bodies rs := rfl

@[simp] theorem bodies_record (b : RecordBody) (rs : List Report) :
    bodies (.record b :: rs) = b :: bodies rs := rfl

@[simp] theorem bodies_append (rs rs' : List Report) : bodies (rs ++ rs') = bodies rs ++ bodies rs' :=
  List.filterMap_append

@[simp] theorem reportAll_nil (s : State) : reportAll [] s = s := rfl

theorem reportAll_cons (r : Report) (rs : List Report) (s : State) :
    reportAll (r :: rs) s = reportAll rs (r.make s) := rfl

theorem reportAll_append (rs rs' : List Report) (s : State) :
    reportAll (rs ++ rs') s = reportAll rs' (reportAll rs s) := List.foldl_append

/-! The reports of each block. -/

/-- The CONTEST reports of a withdrawal (R34). -/
def contestReports (slots : List (Fin 48)) : List Report :=
  slots.flatMap fun k => [.latch condContest, .record (.claim k .contest)]

/-- The CONFLICT reports of a census completion (R28). -/
def conflictReports (slots : List (Fin 48)) : List Report :=
  slots.flatMap fun k => [.latch condConflict, .record (.claim k .conflict)]

/-- The reports of one thing of the line: its latch and its record (R18, R20). -/
def lineReports (c : Fin 7) (cause : LineCause) : List Report := [.latch c, .record (.line cause)]

theorem reportContest_eq (slots : List (Fin 48)) (s : State) :
    reportContest slots s = reportAll (contestReports slots) s := by
  unfold reportContest
  induction slots generalizing s with
  | nil => rfl
  | cons k slots ih => exact ih _

theorem reportConflicts_eq (chans : List (Fin 16)) (s : State) :
    reportConflicts chans s
      = reportAll (conflictReports (chans.map fun c => (s.profile.chans.get c).slot)) s := by
  unfold reportConflicts
  induction chans generalizing s with
  | nil => rfl
  | cons c chans ih =>
    have profile : (generate (.claim (s.profile.chans.get c).slot .conflict)
        (setCond condConflict s)).profile = s.profile := by simp
    rw [List.foldl_cons, ih, profile]
    rfl

theorem reportStuck_eq (s : State) :
    reportStuck s = reportAll (lineReports condLineStuck .stuck) s := rfl

theorem reportBackoff_eq (s : State) :
    reportBackoff s = reportAll (lineReports condBackoff .backoff) s := rfl

@[simp] theorem bodies_lineReports (c : Fin 7) (cause : LineCause) :
    bodies (lineReports c cause) = [.line cause] := rfl

@[simp] theorem latch_mem_lineReports (c d : Fin 7) (cause : LineCause) :
    .latch d ∈ lineReports c cause ↔ d = c := by
  simp [lineReports]

@[simp] theorem bodies_contestReports (slots : List (Fin 48)) :
    bodies (contestReports slots) = slots.map fun k => .claim k .contest := by
  induction slots with
  | nil => rfl
  | cons k slots ih => exact congrArg (RecordBody.claim k .contest :: ·) ih

@[simp] theorem bodies_conflictReports (slots : List (Fin 48)) :
    bodies (conflictReports slots) = slots.map fun k => .claim k .conflict := by
  induction slots with
  | nil => rfl
  | cons k slots ih => exact congrArg (RecordBody.claim k .conflict :: ·) ih

@[simp] theorem latch_mem_contestReports (c : Fin 7) (slots : List (Fin 48)) :
    .latch c ∈ contestReports slots ↔ c = condContest ∧ slots ≠ [] := by
  simp [contestReports, List.eq_nil_iff_forall_not_mem, and_comm]

@[simp] theorem latch_mem_conflictReports (c : Fin 7) (slots : List (Fin 48)) :
    .latch c ∈ conflictReports slots ↔ c = condConflict ∧ slots ≠ [] := by
  simp [conflictReports, List.eq_nil_iff_forall_not_mem, and_comm]

/-! What reports do. -/

/-- Reports touch only: journal, conds, chans. -/
@[simp] theorem reportAll_keeps (rs : List Report) (s : State) :
    (reportAll rs s).station = s.station ∧ (reportAll rs s).cause = s.cause
      ∧ (reportAll rs s).stationCode = s.stationCode ∧ (reportAll rs s).addrCode = s.addrCode
      ∧ (reportAll rs s).profile = s.profile ∧ (reportAll rs s).loader = s.loader
      ∧ (reportAll rs s).lif = s.lif ∧ (reportAll rs s).owner = s.owner
      ∧ (reportAll rs s).slots = s.slots ∧ (reportAll rs s).soft = s.soft
      ∧ (reportAll rs s).inputs = s.inputs ∧ (reportAll rs s).host = s.host
      ∧ (reportAll rs s).patterns = s.patterns ∧ (reportAll rs s).blink = s.blink
      ∧ (reportAll rs s).port = s.port ∧ (reportAll rs s).pins = s.pins
      ∧ (reportAll rs s).freeIndex = s.freeIndex ∧ (reportAll rs s).pending = s.pending := by
  induction rs generalizing s with
  | nil => simp
  | cons r rs ih =>
    rw [reportAll_cons]
    cases r <;> simp [ih, Report.make]

theorem reportAll_moves (rs : List Report) (s : State) :
    MovesOnly (· = .conditions) s (reportAll rs s) :=
  .foldl (fun s r => match r with
    | .latch c => setCond_moves c s
    | .record body => generate_moves body s) rs s

theorem reportAll_journal (rs : List Report) (s : State) :
    (reportAll rs s).journal = (bodies rs).foldl Journal.taking s.journal := by
  induction rs generalizing s with
  | nil => rfl
  | cons r rs ih =>
    rw [reportAll_cons, ih]
    cases r with
    | latch c => simp [Report.make]
    | record body => simp [Report.make, generate_journal]

theorem anyCond_iff (s : State) : anyCond s = true ↔ ∃ c, s.conds.get c = true := by
  simp [anyCond]

theorem sourceLevel_conditions (s : State) :
    sourceLevel s .conditions = if anyCond s then .asserted else .released := rfl

/-- The CONDITIONS source stands at ASSERTED already while a latch is set (R74). -/
theorem conditionsMove_of_anyCond {s : State} (h : anyCond s = true) (c : Fin 16) (ch : Channel) :
    s.conditionsMove [.asserted] c ch = ch := by
  simp [State.conditionsMove, sourceLevel_conditions, h]

@[simp] theorem conditionsMove_nil (s : State) (c : Fin 16) (ch : Channel) :
    s.conditionsMove [] c ch = ch := by
  simp [State.conditionsMove]

/-- The CONDITIONS source and the channels' settings are what a move depends on. -/
theorem conditionsMove_congr {s t : State} (conds : t.conds = s.conds) (profile : t.profile = s.profile)
    (levels : List Level) (c : Fin 16) (ch : Channel) :
    t.conditionsMove levels c ch = s.conditionsMove levels c ch := by
  simp only [State.conditionsMove, sourceLevel_conditions, anyCond, conds, profile]
  rfl

/-- A channel of another source does not move with the condition latches. -/
theorem conditionsMove_other {s : State} {c : Fin 16}
    (h : (s.profile.chans.get c).source ≠ .conditions) (levels : List Level) (ch : Channel) :
    s.conditionsMove levels c ch = ch := if_neg h

/-- Condition latches move a channel's level and list alone. -/
@[simp] theorem conditionsMove_keeps (s : State) (levels : List Level) (c : Fin 16) (ch : Channel) :
    (s.conditionsMove levels c ch).state = ch.state ∧ (s.conditionsMove levels c ch).sent = ch.sent
      ∧ (s.conditionsMove levels c ch).inFlight = ch.inFlight := by
  unfold State.conditionsMove
  split <;> simp

/-- The journal holds 32 records at most (R140). -/
theorem taking_length (j : Journal) (body : RecordBody) :
    (j.taking body).records.length =
      if j.records.length < 32 then j.records.length + 1 else j.records.length := by
  unfold Journal.taking
  split <;> simp

theorem reportAll_conds (rs : List Report) (s : State) (c : Fin 7) :
    (reportAll rs s).conds.get c = true ↔
      s.conds.get c = true ∨ .latch c ∈ rs ∨ c = condJournalLost ∧ overflows rs s := by
  induction rs generalizing s with
  | nil => simp [overflows]
  | cons r rs ih =>
    rw [reportAll_cons, ih]
    cases r with
    | latch d =>
      simp only [Report.make, setCond_conds, get_put, overflows, setCond_keeps, bodies_latch,
        List.mem_cons, Report.latch.injEq]
      by_cases e : d = c
      · simp [e]
      · simp [e, Ne.symm e]
    | record body =>
      simp only [Report.make, generate_conds, overflows, generate_journal, taking_length,
        bodies_record, List.mem_cons, reduceCtorEq, false_or, List.length_cons]
      by_cases full : s.journal.records.length < 32
      · simp only [full, if_true]
        have : 32 - (s.journal.records.length + 1) < (bodies rs).length
            ↔ 32 - s.journal.records.length < (bodies rs).length + 1 := by omega
        rw [this]
      · have lost : 32 - s.journal.records.length < (bodies rs).length + 1 := by omega
        simp only [full, if_false, get_put, lost, and_true]
        by_cases e : condJournalLost = c
        · simp [e]
        · simp [e, Ne.symm e]

/-- What the reports do to one channel: the first that sets a latch moves the CONDITIONS source to
ASSERTED, and the later ones find it there (R74). -/
def ReportsMove (rs : List Report) (s : State) (c : Fin 16) : Prop :=
  (setsAny rs s → (reportAll rs s).chans.get c = s.conditionsMove [.asserted] c (s.chans.get c))
    ∧ (¬ setsAny rs s → (reportAll rs s).chans.get c = s.chans.get c)

/-- Once a report has set a latch, the later ones move nothing. -/
theorem reportsMove_of_first {r : Report} {rs : List Report} {s : State} {c : Fin 16}
    (sets : setsAny (r :: rs) s) (latched : anyCond (r.make s) = true)
    (chan : (r.make s).chans.get c = s.conditionsMove [.asserted] c (s.chans.get c))
    (rest : ReportsMove rs (r.make s) c) : ReportsMove (r :: rs) s c := by
  refine ⟨fun _ => ?_, fun idle => absurd sets idle⟩
  rw [reportAll_cons, ← chan]
  by_cases more : setsAny rs (r.make s)
  · rw [rest.1 more, conditionsMove_of_anyCond latched]
  · exact rest.2 more

theorem anyCond_of_put {s t : State} {d : Fin 7} (h : t.conds = put s.conds d true) :
    anyCond t = true :=
  (anyCond_iff t).mpr ⟨d, by simp [h]⟩

theorem reportsMove (rs : List Report) (s : State) (c : Fin 16) : ReportsMove rs s c := by
  induction rs generalizing s with
  | nil => exact ⟨fun sets => by simp [setsAny, overflows] at sets, fun _ => rfl⟩
  | cons r rs ih =>
    cases r with
    | latch d =>
      exact reportsMove_of_first (.inl ⟨d, by simp⟩) (anyCond_of_put (setCond_conds d s))
        (setCond_chan d s c) (ih _)
    | record body =>
      by_cases room : s.journal.records.length < 32
      · obtain ⟨moves, stays⟩ := ih (generate body s)
        have conds : (generate body s).conds = s.conds := by simp [generate_conds, room]
        have chan : (generate body s).chans.get c = s.chans.get c := by simp [generate_chan, room]
        have same : setsAny (.record body :: rs) s ↔ setsAny rs (generate body s) := by
          simp only [setsAny, overflows, generate_journal, taking_length, room, if_true,
            List.mem_cons, reduceCtorEq, false_or, bodies_record, List.length_cons]
          refine or_congr_right ?_
          omega
        rw [chan, conditionsMove_congr conds (by simp)] at moves
        rw [chan] at stays
        unfold ReportsMove
        rw [same]
        exact ⟨moves, stays⟩
      · have lost : (generate body s).conds = put s.conds condJournalLost true := by
          simp [generate_conds, room]
        refine reportsMove_of_first (.inr ?_) (anyCond_of_put lost) ?_ (ih _)
        · simp only [overflows, bodies_record, List.length_cons]
          omega
        · simp [Report.make, generate_chan, room]

theorem reportAll_chan {rs : List Report} {s : State} (h : setsAny rs s) (c : Fin 16) :
    (reportAll rs s).chans.get c = s.conditionsMove [.asserted] c (s.chans.get c) :=
  (reportsMove rs s c).1 h

theorem reportAll_chan_idle {rs : List Report} {s : State} (h : ¬ setsAny rs s) (c : Fin 16) :
    (reportAll rs s).chans.get c = s.chans.get c :=
  (reportsMove rs s c).2 h

/-! ### Withdrawal (R34, R56, R69, R70) -/

/-- One channel after a void end at the transmit side and the withdrawals. -/
theorem withdrawn_chan (s : State) (c : Fin 16) :
    (withdrawClaims (clearInFlight s)).chans.get c = s.voidChannel c := by
  simp only [withdrawClaims, clearInFlight, State.voidChannel, State.setSlots_chans,
    State.setChans_chans, State.setChans_lif, State.setChans_profile, get_tab]
  by_cases owned : (s.chans.get c).state = .owned <;> simp [owned]

/-- One slot after the withdrawals (R56). -/
theorem withdrawn_slot (s : State) (k : Fin 48) :
    (withdrawClaims (clearInFlight s)).slots.get k =
      if s.lif.contention.get k = true ∧ (s.slots.get k).own = .localOwned then
        { s.slots.get k with own := .remote }
      else s.slots.get k := by
  simp [withdrawClaims]

end Sys2Proof.Machine

/-! ### The law of ownership (R10, R24, R28, R31, R34, R43, R44, R154)

The law reads who owns what, the profile, and the frame in progress. Only five events change who owns: the
resets, the end of LOADING, a withdrawal, a valid frame and the completion of the census. All others are
shown to leave that view alone, or to move the line interface only. -/

namespace Sys2Proof.Machine

open Sys2Proof

/-- A clean frame in progress at an ACTIVE station has recorded every LOCAL slot it has passed (R10). -/
def FrameRecorded (s : State) : Prop :=
  s.lif.line = .frame → s.station = .active → s.lif.fault = false → ∀ k : Fin 48,
    (s.slots.get k).own = .localOwned → Config.firstSlotCell + 2 * k.val < s.lif.pos →
      s.lif.presence.get k = true

/-- The law of ownership, part by part. That one channel at most owns a slot follows from the profile. -/
structure OwnersOk (s : State) : Prop where
  localIff : ∀ k, (s.slots.get k).own = .localOwned ↔ ownedSlot s k = true
  distinct : slotsDistinct s.profile.chans = true
  enabled : ∀ c, (s.chans.get c).state = .owned ∨ (s.chans.get c).state = .claiming →
    (s.profile.chans.get c).enable = true
  active : ∀ c, (s.chans.get c).state = .owned → s.station = .active
  faulty : s.owner.imageFault = true → ∀ c, (s.chans.get c).state = .unused
  recorded : FrameRecorded s

theorem ownedSlot_iff (s : State) (k : Fin 48) :
    ownedSlot s k = true ↔
      ∃ c, (s.chans.get c).state = .owned ∧ (s.profile.chans.get c).slot = k := by
  simp [ownedSlot]

/-- Enabled channels of a checked profile that name the same slot are one (R154). -/
theorem eq_of_slotsDistinct {chans : Vector ChanCfg 16} (h : slotsDistinct chans = true)
    {c d : Fin 16} (hc : (chans.get c).enable = true) (hd : (chans.get d).enable = true)
    (same : (chans.get c).slot = (chans.get d).slot) : c = d := by
  have pair := List.all_eq_true.mp (List.all_eq_true.mp h c (List.mem_finRange c)) d
    (List.mem_finRange d)
  simpa [hc, hd, same] using pair

theorem ownershipLaw_iff (s : State) : s.OwnershipLaw ↔ OwnersOk s :=
  ⟨fun ⟨h1, _, h3, h4, h5, h6, h7⟩ => ⟨h1, h3, h4, h5, h6, h7⟩,
    fun ⟨h1, h3, h4, h5, h6, h7⟩ =>
      ⟨h1, fun c d hc hd => eq_of_slotsDistinct h3 (h4 c (.inl hc)) (h4 d (.inl hd)), h3, h4, h5, h6,
        h7⟩⟩

/-- What the law reads of who owns what. -/
def ownersView (s : State) :
    Station × Bool × Profile × (Fin 48 → Ownership) × (Fin 16 → ChanState) :=
  (s.station, s.owner.imageFault, s.profile, fun k => (s.slots.get k).own,
    fun c => (s.chans.get c).state)

theorem ownersView_eq {s t : State} : ownersView t = ownersView s ↔
    t.station = s.station ∧ t.owner.imageFault = s.owner.imageFault ∧ t.profile = s.profile
      ∧ (∀ k, (t.slots.get k).own = (s.slots.get k).own)
      ∧ ∀ c, (t.chans.get c).state = (s.chans.get c).state := by
  simp [ownersView, funext_iff]

/-- Channels that only take levels leave the view alone. -/
theorem ownersView_of_moves {moved : Source → Prop} {s t : State} (moves : MovesOnly moved s t)
    (station : t.station = s.station) (owner : t.owner = s.owner)
    (own : ∀ k, (t.slots.get k).own = (s.slots.get k).own) : ownersView t = ownersView s :=
  ownersView_eq.mpr
    ⟨station, congrArg Owner.imageFault owner, moves.profile, own, fun c => (moves.keeps c).1⟩

/-- The view with the frame in progress. -/
def frameView (s : State) : (Station × Bool × Profile × (Fin 48 → Ownership) × (Fin 16 → ChanState)) × Lif :=
  (ownersView s, s.lif)

theorem frameView_eq {s t : State} (owners : ownersView t = ownersView s) (lif : t.lif = s.lif) :
    frameView t = frameView s := Prod.ext owners lif

theorem ownedSlot_congr {s t : State} (profile : t.profile = s.profile)
    (state : ∀ c, (t.chans.get c).state = (s.chans.get c).state) (k : Fin 48) :
    ownedSlot t k = ownedSlot s k := by
  simp only [ownedSlot, profile, state]

/-- The same channels with the same LOCAL slots keep the law. -/
theorem OwnersOk.of_owners_of_localIff {s t : State} (h : OwnersOk s) (station : t.station = s.station)
    (imageFault : t.owner.imageFault = s.owner.imageFault) (profile : t.profile = s.profile)
    (state : ∀ c, (t.chans.get c).state = (s.chans.get c).state)
    (own : ∀ k, (t.slots.get k).own = .localOwned ↔ (s.slots.get k).own = .localOwned)
    (recorded : FrameRecorded t) : OwnersOk t where
  localIff k := by rw [own, ownedSlot_congr profile state]; exact h.localIff k
  distinct := by rw [profile]; exact h.distinct
  enabled c := by rw [state, profile]; exact h.enabled c
  active c := by rw [state, station]; exact h.active c
  faulty fault c := by rw [state]; exact h.faulty (imageFault ▸ fault) c
  recorded := recorded

theorem OwnersOk.of_owners {s t : State} (h : OwnersOk s) (same : ownersView t = ownersView s)
    (recorded : FrameRecorded t) : OwnersOk t := by
  obtain ⟨station, imageFault, profile, own, state⟩ := ownersView_eq.mp same
  exact h.of_owners_of_localIff station imageFault profile state (fun k => by rw [own]) recorded

theorem FrameRecorded.congr {s t : State} (h : FrameRecorded s) (same : ownersView t = ownersView s)
    (line : t.lif.line = s.lif.line) (pos : t.lif.pos = s.lif.pos)
    (fault : t.lif.fault = s.lif.fault) (presence : t.lif.presence = s.lif.presence) :
    FrameRecorded t := by
  obtain ⟨station, -, -, own, -⟩ := ownersView_eq.mp same
  intro frame active clean k
  rw [own, pos, presence]
  exact h (line ▸ frame) (station ▸ active) (fault ▸ clean) k

theorem FrameRecorded.of_not_frame {s : State} (h : s.lif.line ≠ .frame) : FrameRecorded s :=
  fun frame => absurd frame h

/-- No slot has been passed before the first presence cell. -/
theorem FrameRecorded.of_start {s : State} (h : s.lif.pos ≤ Config.firstSlotCell) :
    FrameRecorded s :=
  fun _ _ _ k _ passed => absurd passed (by omega)

theorem OwnersOk.of_view {s t : State} (h : OwnersOk s) (same : frameView t = frameView s) :
    OwnersOk t := by
  obtain ⟨owners, lif⟩ := Prod.mk.inj same
  exact h.of_owners owners (h.recorded.congr owners (by rw [lif]) (by rw [lif]) (by rw [lif]) (by rw [lif]))

theorem OwnersOk.of_moves {moved : Source → Prop} {s t : State} (h : OwnersOk s)
    (moves : MovesOnly moved s t)
    (rest : t.station = s.station ∧ t.owner = s.owner ∧ t.slots = s.slots ∧ t.lif = s.lif) :
    OwnersOk t := by
  obtain ⟨station, owner, slots, lif⟩ := rest
  exact h.of_view (frameView_eq (ownersView_of_moves moves station owner fun k => by rw [slots]) lif)

/-- A station that owns nothing and has no LOCAL slot keeps the law. -/
theorem OwnersOk.of_none {s : State} (distinct : slotsDistinct s.profile.chans = true)
    (none : ∀ c, (s.chans.get c).state ≠ .owned) (own : ∀ k, (s.slots.get k).own ≠ .localOwned)
    (enabled : ∀ c, (s.chans.get c).state = .claiming → (s.profile.chans.get c).enable = true)
    (faulty : s.owner.imageFault = true → ∀ c, (s.chans.get c).state = .unused) : OwnersOk s where
  localIff k := iff_of_false (own k) fun owned =>
    let ⟨c, state, _⟩ := (ownedSlot_iff s k).mp owned
    none c state
  distinct := distinct
  enabled c joining := joining.elim (fun owned => absurd owned (none c)) (enabled c)
  active c owned := absurd owned (none c)
  faulty := faulty
  recorded _ _ _ k mine := absurd mine (own k)

/-- Outside ACTIVE nothing is owned and no slot is LOCAL. -/
theorem OwnersOk.none {s : State} (h : OwnersOk s) (off : s.station ≠ .active) :
    (∀ c, (s.chans.get c).state ≠ .owned) ∧ ∀ k, (s.slots.get k).own ≠ .localOwned := by
  have none : ∀ c, (s.chans.get c).state ≠ .owned := fun c owned => off (h.active c owned)
  exact ⟨none, fun k mine =>
    let ⟨c, owned, _⟩ := (ownedSlot_iff s k).mp ((h.localIff k).mp mine)
    none c owned⟩

theorem fallback_distinct : slotsDistinct fallbackProfile.chans = true := by decide +kernel

/-- The reset values keep the law. -/
theorem OwnersOk.reset {s : State} (profile : s.profile = fallbackProfile)
    (chans : s.chans = State.reset.chans) (slots : s.slots = State.reset.slots) : OwnersOk s := by
  have unused : ∀ c, (s.chans.get c).state = .unused := fun c => by rw [chans]; exact congrArg _ (get_tab _ c)
  refine .of_none (by rw [profile]; exact fallback_distinct) (fun c => by rw [unused c]; decide)
    (fun k => ?_) (fun c claiming => by rw [unused c] at claiming; cases claiming) fun _ => unused
  rw [slots, show (State.reset.slots.get k) = _ from get_tab _ k]
  decide

/-! #### Commands of the line -/

/-- A falling edge begins a frame, or leaves the frame in progress as it is. -/
theorem fall_cases (l : Lif) :
    l.fall.pos = 0
      ∨ l.fall.line = l.line ∧ l.fall.pos = l.pos ∧ l.fall.fault = l.fault
        ∧ l.fall.presence = l.presence := by
  unfold Lif.fall Lif.edge
  (repeat' split) <;> simp [Lif.takeStart]

theorem OwnersOk.lineFalls {s : State} (h : OwnersOk s) : OwnersOk (lineFalls s) := by
  have same : ownersView (Machine.lineFalls s) = ownersView s := by simp [ownersView]
  refine h.of_owners same ?_
  by_cases on : s.station.onLine = true
  · have lif : (Machine.lineFalls s).lif = s.lif.fall := by simp [lineFalls_lif, on]
    rcases fall_cases s.lif with start | ⟨line, pos, fault, presence⟩
    · exact .of_start (by rw [lif, start]; exact Nat.zero_le _)
    · exact h.recorded.congr same (by rw [lif, line]) (by rw [lif, pos]) (by rw [lif, fault])
        (by rw [lif, presence])
  · have lif : (Machine.lineFalls s).lif = s.lif := by simp [lineFalls_lif, on]
    exact h.recorded.congr same (by rw [lif]) (by rw [lif]) (by rw [lif]) (by rw [lif])

theorem frameBegins_owners (s : State) : ownersView (frameBegins s) = ownersView s := by
  rw [ownersView_eq]
  refine ⟨by simp, ?_, by simp, by simp, fun c => ?_⟩
  · unfold frameBegins startCensusWait
    (repeat' split) <;> simp
  · unfold frameBegins takeSnapshots
    (repeat' split) <;> simp
    split <;> simp_all

theorem OwnersOk.startPatternEnds {s : State} (h : OwnersOk s) (run : Nat) (cell : Sample) :
    OwnersOk (startPatternEnds run cell s) := by
  by_cases inStart : s.InStart
  · rw [startPatternEnds_of_inStart run cell inStart]
    split
    · refine h.of_owners ((frameBegins_owners _).trans (by simp [ownersView])) (.of_start ?_)
      simp
    · exact h.of_owners (by simp [ownersView]) (.of_not_frame (by simp [Lif.falseStart]))
  · rw [startPatternEnds_of_not_inStart run cell inStart]
    exact h.of_view (by simp [frameView, ownersView])

/-- Moving other parts of the line interface than the frame in progress keeps the law. -/
theorem OwnersOk.setLif {s : State} (h : OwnersOk s) {l : Lif} (line : l.line = s.lif.line)
    (pos : l.pos = s.lif.pos) (fault : l.fault = s.lif.fault)
    (presence : l.presence = s.lif.presence) : OwnersOk (s.setLif l) :=
  h.of_owners rfl (h.recorded.congr rfl line pos fault presence)

theorem presenceError_clean {s : State} {k : Fin 48} {x : Sample} (active : s.station = .active)
    (mine : (s.slots.get k).own = .localOwned) (clean : presenceError s k x = false) :
    recorded x = true := by
  cases x <;> simp_all [presenceError, recorded]

/-- A presence cell without a cell error records a LOCAL slot as owned (R8, R10). -/
theorem FrameRecorded.cellTaken {s : State} (h : FrameRecorded s) (x : Sample) :
    FrameRecorded (s.setLif (cellTaken x s)) := by
  by_cases frame : s.lif.line = .frame
  · have taken : Machine.cellTaken x s = frameCell x s := by simp [Machine.cellTaken, frame]
    rw [taken]
    rcases cellAt_cases s.lif.pos with ⟨-, cell⟩ | ⟨j, at_, cell⟩ | ⟨j, at_, cell⟩ | ⟨-, cell⟩
    · rw [frameCell_start x cell]
      refine .of_start ?_
      simp only [State.setLif_lif, Config.firstSlotCell]
      split <;> omega
    · rw [frameCell_presence x cell]
      intro _ active clean k mine passed
      simp only [State.setLif_lif, State.setLif_station, State.setLif_slots, Bool.or_eq_false_iff]
        at active clean mine passed ⊢
      rw [get_put]
      split
      · rename_i this
        subst this
        exact presenceError_clean active mine clean.2
      · rename_i other
        refine h frame active clean.1 k mine ?_
        simp only [Config.firstSlotCell] at passed ⊢
        have : j.val ≠ k.val := fun e => other (Fin.ext e)
        omega
    · rw [frameCell_level x cell]
      intro _ active clean k mine passed
      simp only [State.setLif_lif, State.setLif_station, State.setLif_slots, Bool.or_eq_false_iff]
        at active clean mine passed ⊢
      refine h frame active clean.1.1 k mine ?_
      simp only [Config.firstSlotCell] at passed ⊢
      omega
    · rw [frameCell_check x cell]
      exact h
  · refine .of_not_frame ?_
    unfold Machine.cellTaken
    simp only [State.setLif_lif]
    split
    · exact frame
    · exact absurd ‹_› frame
    · unfold Lif.gapCell
      split <;> exact frame
    · unfold Lif.stuckCell
      (repeat' split) <;> exact frame

theorem stuckSees_keeps (l : Lif) (x : Sample) :
    (l.stuckSees x).line = l.line ∧ (l.stuckSees x).pos = l.pos
      ∧ (l.stuckSees x).fault = l.fault ∧ (l.stuckSees x).presence = l.presence := by
  unfold Lif.stuckSees
  split <;> simp

theorem OwnersOk.sampleCell {s : State} (h : OwnersOk s) (x : Sample) : OwnersOk (sampleCell x s) := by
  have same : ownersView (Machine.sampleCell x s) = ownersView s := by simp [ownersView]
  refine h.of_owners same ?_
  by_cases on : s.station.onLine = true
  · have lif : (Machine.sampleCell x s).lif = (cellTaken x s).stuckSees x := by
      simp [sampleCell_lif, on]
    obtain ⟨line, pos, fault, presence⟩ := stuckSees_keeps (cellTaken x s) x
    exact FrameRecorded.congr (s := s.setLif (cellTaken x s)) (h.recorded.cellTaken x) same
      (by rw [lif]; exact line) (by rw [lif]; exact pos) (by rw [lif]; exact fault)
      (by rw [lif]; exact presence)
  · have lif : (Machine.sampleCell x s).lif = s.lif := by simp [sampleCell_lif, on]
    exact h.recorded.congr same (by rw [lif]) (by rw [lif]) (by rw [lif]) (by rw [lif])

/-- Withdrawing contended claims keeps the law: the channel gives up exactly where its slot does (R34,
R56). -/
theorem OwnersOk.withdraw {s t : State} (h : OwnersOk s) (station : t.station = s.station)
    (owner : t.owner = s.owner) (profile : t.profile = s.profile)
    (slots : t.slots = (withdrawClaims (clearInFlight s)).slots)
    (state : ∀ c, (t.chans.get c).state = (s.voidChannel c).state)
    (line : t.lif.line ≠ .frame) : OwnersOk t := by
  have owned : ∀ c, (t.chans.get c).state = .owned ↔
      (s.chans.get c).state = .owned ∧ s.lif.contention.get (s.profile.chans.get c).slot = false := by
    intro c
    rw [state, State.voidChannel]
    by_cases o : (s.chans.get c).state = .owned <;>
      by_cases w : s.lif.contention.get (s.profile.chans.get c).slot = true <;> simp [o, w]
  have other : ∀ c, (t.chans.get c).state ≠ .withdrawn →
      (t.chans.get c).state = (s.chans.get c).state := by
    intro c
    rw [state, State.voidChannel]
    (repeat' split) <;> simp
  have own : ∀ k, (t.slots.get k).own = .localOwned ↔
      (s.slots.get k).own = .localOwned ∧ s.lif.contention.get k = false := by
    intro k
    rw [slots, withdrawn_slot]
    by_cases o : (s.slots.get k).own = .localOwned <;>
      by_cases w : s.lif.contention.get k = true <;> simp [o, w]
  exact
    { localIff := fun k => by
        rw [own, h.localIff, ownedSlot_iff, ownedSlot_iff, profile]
        constructor
        · rintro ⟨⟨c, mine, rfl⟩, calm⟩
          exact ⟨c, (owned c).mpr ⟨mine, calm⟩, rfl⟩
        · rintro ⟨c, mine, rfl⟩
          obtain ⟨mine, calm⟩ := (owned c).mp mine
          exact ⟨⟨c, mine, rfl⟩, calm⟩
      distinct := profile ▸ h.distinct
      enabled := fun c joining => by
        rw [other c (by rcases joining with e | e <;> simp [e])] at joining
        rw [profile]
        exact h.enabled c joining
      active := fun c mine => station ▸ h.active c ((owned c).mp mine).1
      faulty := fun fault c => by
        have unused := h.faulty (owner ▸ fault) c
        rw [state, State.voidChannel]
        simp [unused]
      recorded := .of_not_frame line }

/-- Reports leave the law alone: they move channels of the CONDITIONS source only. -/
theorem reportAll_state (rs : List Report) (s : State) (c : Fin 16) :
    ((reportAll rs s).chans.get c).state = (s.chans.get c).state := ((reportAll_moves rs s).keeps c).1

theorem reportStuck_moves (s : State) : MovesOnly (· = .conditions) s (reportStuck s) := by
  rw [reportStuck_eq]
  exact reportAll_moves _ s

theorem OwnersOk.stuckExpires {s : State} (h : OwnersOk s) : OwnersOk (stuckExpires s) := by
  by_cases due : s.StuckDue
  · rw [stuckExpires_of_due due]
    (repeat' split)
    · refine h.withdraw (by simp) (by simp) (by simp) (by simp) (fun c => ?_) (by simp [Lif.enterStuck])
      rw [reportStuck_eq, reportAll_state, State.setLif_chans, withdrawn_chan]
    · unfold eitherOrder
      dsimp only
      split <;>
        refine h.withdraw (by simp) (by simp) (by simp) (by simp) (fun c => ?_)
          (by simp [Lif.enterStuck]) <;>
        simp only [reportStuck_eq, reportContest_eq, reportAll_state, State.setLif_chans,
          State.setFreeIndex_chans, withdrawn_chan]
    · refine h.of_owners (ownersView_of_moves (.from_eq (reportStuck_moves _) rfl rfl)
        (by simp) (by simp) (by simp)) (.of_not_frame ?_)
      simp [Lif.enterStuck]
  · rwa [stuckExpires_of_not_due due]

theorem OwnersOk.recoveryExpires {s : State} (h : OwnersOk s) : OwnersOk (recoveryExpires s) := by
  by_cases due : s.RecoveryDue
  · rw [recoveryExpires_of_due due]
    refine h.of_owners (ownersView_of_moves (.from_eq (generate_moves _ _) rfl rfl)
      (by simp) (by simp) (by simp)) (.of_not_frame ?_)
    simp
  · rwa [recoveryExpires_of_not_due due]

theorem OwnersOk.gapCompletes {s : State} (h : OwnersOk s) : OwnersOk (gapCompletes s) := by
  by_cases done : s.GapDone
  · rw [gapCompletes_of_done done]
    exact h.of_owners rfl (.of_not_frame (by simp))
  · rwa [gapCompletes_of_not_done done]

theorem requestActions_frameView : ∀ act ∈ requestActions, ∀ tag ops s,
    frameView (act tag ops s) = frameView s := by
  intro act mem tag ops s
  have moves := requestActions_moves act mem tag ops s
  have rest : (act tag ops s).station = s.station ∧ (act tag ops s).owner = s.owner
      ∧ (∀ k, ((act tag ops s).slots.get k).own = (s.slots.get k).own)
      ∧ (act tag ops s).lif = s.lif := by
    simp only [requestActions, List.mem_cons, List.not_mem_nil, or_false] at mem
    rcases mem with rfl | rfl | rfl | rfl | rfl | rfl | rfl | rfl | rfl | rfl | rfl
    case inr.inr.inr.inr.inr.inl =>
      refine ⟨by simp, by simp, fun k => ?_, by simp⟩
      simp only [actAckSlots, answer_keeps, ackSlotRange, State.setSlots_slots, get_tab]
      split <;> rfl
    all_goals simp
  obtain ⟨station, owner, own, lif⟩ := rest
  exact frameView_eq (ownersView_of_moves moves station owner own) lif

theorem OwnersOk.takeWrite {s : State} (h : OwnersOk s) (code : Byte) (rest : List Byte)
    (stn : BitVec 4) (addr : BitVec 2) : OwnersOk (takeWrite code rest stn addr s) := by
  rcases takeWrite_keeps frameView (fun _ _ => rfl) (fun _ _ => rfl) requestActions_frameView code rest
    stn addr s with ⟨e, -⟩ | same
  · rw [e]
    exact .reset rfl rfl rfl
  · exact h.of_view same

/-- Every event between deliveries keeps the law of ownership. -/
theorem OwnersOk.takeMid {s : State} (h : OwnersOk s) (e : MidEvent) : OwnersOk (takeMid e s) := by
  cases e with
  | powerOnReset | pinReset => exact .reset rfl rfl rfl
  | fallingEdge => exact h.lineFalls
  | startPatternEnd run cell => exact h.startPatternEnds run cell
  | gapComplete => exact h.gapCompletes
  | frameStart =>
    simp only [Machine.takeMid, startFrame]
    split
    · exact h.setLif rfl rfl rfl rfl
    · exact h
  | refreshTimerExpiry =>
    simp only [Machine.takeMid, refreshExpires]
    split
    · exact h.setLif rfl rfl rfl rfl
    · exact h
  | backoffTimerExpiry =>
    simp only [Machine.takeMid, backoffExpires]
    split
    · exact h.setLif rfl rfl rfl rfl
    · exact h
  | stuckTimerExpiry => exact h.stuckExpires
  | recoveryTimerExpiry => exact h.recoveryExpires
  | pinChange i l =>
    exact h.of_moves (pinMoves_moves i l s) (by simp [Machine.takeMid])
  | filterTimerExpiry i =>
    exact h.of_moves (filterExpires_moves i s) (by simp [Machine.takeMid])
  | hostPowerPinChange pin l => exact h.of_view (by simp [frameView, ownersView, Machine.takeMid])
  | hostPowerFilterExpiry pin =>
    exact h.of_moves (hostFilterExpires_moves pin s) (by simp [Machine.takeMid])
  | windowTimerExpiry p =>
    exact h.of_moves (windowExpires_moves p s) (by simp [Machine.takeMid])
  | holdTimerExpiry p =>
    exact h.of_moves (holdExpires_moves p s) (by simp [Machine.takeMid])
  | quietTimerExpiry p =>
    exact h.of_moves (quietExpires_moves p s) (by simp [Machine.takeMid])
  | blinkPhaseCrossing phase => exact h.of_view (by simp [frameView, ownersView, Machine.takeMid])
  | request code w stn addr =>
    simp only [Machine.takeMid, addressed]
    split
    · exact h.takeWrite code w.rest stn addr
    · exact h
  | responseRead r =>
    exact h.of_view (addressed_keeps frameView _ _ s (by simp [frameView, ownersView]))
  | cellSampled x => exact h.sampleCell x

/-! #### The end of LOADING, and the frame end -/

/-- LOADING ends: the blocks at their first values, before the channels start (R2, R24, R117, R158). -/
def State.leavingLoading (p : Profile) (status : ImageStatus) (s : State) : State :=
  let s := (s.setStation .listen).setProfile p
  let s := s.setLif
    { s.lif with
      line := .gap, gapCount := 0, gapLen := Config.longGap
      stuckTimer := if s.pins.evl = .free then .stopped else .running Config.stuckMs }
  let s := s.setOwner
    { progress := 0, seen := tab fun _ => false, waitTimer := .running p.quiet,
      imageFault := status == .fault }
  if status = .fault then setCond condImageFault s else s

theorem leavingLoading_profile (p : Profile) (status : ImageStatus) (s : State) :
    (s.leavingLoading p status).profile = p := by
  unfold State.leavingLoading
  dsimp only
  split <;> simp

theorem endLoading_eq (p : Profile) (status : ImageStatus) (s : State) :
    endLoading p status s =
      generate (.start s.cause status)
        ((firstSamples (startChannels (s.leavingLoading p status))).setBlink
          { running := true, phase := 0 }) := by
  have cause : (s.leavingLoading p status).cause = s.cause := by
    unfold State.leavingLoading
    dsimp only
    split <;> simp
  have : s.cause = ((firstSamples (startChannels (s.leavingLoading p status))).setBlink
      { running := true, phase := 0 }).cause := by
    simp [cause]
  rw [this]
  rfl

theorem endLoading_profile (p : Profile) (status : ImageStatus) (s : State) :
    (endLoading p status s).profile = p := by
  unfold endLoading
  dsimp only
  split <;> simp

theorem endLoading_owner (p : Profile) (status : ImageStatus) (s : State) :
    (endLoading p status s).owner =
      { progress := 0, seen := tab fun _ => false, waitTimer := .running p.quiet,
        imageFault := status == .fault } := by
  unfold endLoading
  dsimp only
  split <;> simp

/-- A profile that is read from its bytes has passed the check of its slots (R154). -/
theorem decodeProfile_distinct {image : List Byte} {p : Profile} (h : decodeProfile image = some p) :
    slotsDistinct p.chans = true := by
  unfold decodeProfile at h
  dsimp only at h
  split at h
  · split at h
    · rename_i checked
      cases h
      exact checked.2
    · cases h
  · cases h

/-- At the end of LOADING every enabled channel is CLAIMING and every other UNUSED (R24). -/
theorem endLoading_state (p : Profile) (status : ImageStatus) (s : State) (c : Fin 16) :
    ((endLoading p status s).chans.get c).state =
      if (p.chans.get c).enable then .claiming else .unused := by
  rw [endLoading_eq, ((generate_moves _ _).keeps c).1, State.setBlink_chans,
    ((firstSamples_moves _).keeps c).1]
  simp [startChannels, leavingLoading_profile]

/-- A station that leaves LOADING owns nothing yet. -/
theorem OwnersOk.endLoading {s : State} (h : OwnersOk s) (loading : s.station = .loading) {p : Profile}
    {l : Loader} (profile : l.status = .fault ∧ p = fallbackProfile
      ∨ l.status = .ok ∧ ∃ image, decodeProfile image = some p) :
    OwnersOk (endLoading p l.status (s.setLoader l)) := by
  have chan := endLoading_state p l.status (s.setLoader l)
  have own := (h.none (by simp [loading])).2
  refine .of_none ?_ (fun c => ?_) (by simpa using own) (fun c => ?_) fun fault c => ?_
  · rw [endLoading_profile]
    rcases profile with ⟨-, rfl⟩ | ⟨-, image, read⟩
    · exact fallback_distinct
    · exact decodeProfile_distinct read
  · rw [chan]
    split <;> decide
  · rw [chan, endLoading_profile]
    split
    · exact fun _ => ‹_›
    · exact fun claiming => nomatch claiming
  · rcases profile with ⟨-, rfl⟩ | ⟨ok, -⟩
    · rw [chan]
      simp [fallbackProfile]
    · simp [endLoading_owner, ok] at fault

theorem OwnersOk.takeImageByte {s : State} (h : OwnersOk s) (b : Byte) :
    OwnersOk (takeImageByte b s) := by
  rcases takeImageByte_cases b s with ⟨l, e⟩ | ⟨loading, l, p, e, profile⟩
  · rw [e]
    exact h.of_view rfl
  · rw [e]
    exact h.endLoading loading profile

theorem OwnersOk.resetEnds {s : State} (h : OwnersOk s) (stn : BitVec 4) (addr : BitVec 2) :
    OwnersOk (resetEnds stn addr s) := by
  unfold Machine.resetEnds
  split
  · obtain ⟨none, own⟩ := h.none (by simp [‹s.station = _›])
    exact .of_none h.distinct none own (fun c claiming => h.enabled c (.inr claiming)) h.faulty
  · exact h

theorem OwnersOk.censusWaitExpires {s : State} (h : OwnersOk s) : OwnersOk (censusWaitExpires s) := by
  unfold Machine.censusWaitExpires
  split
  · exact h.of_owners rfl (h.recorded.congr rfl rfl rfl rfl rfl)
  · exact h

/-! A valid frame (R12, R43). -/

theorem applySlot_own (owned present driven : Bool) (e : SlotEntry) :
    (applySlot owned present driven e).own =
      if present then (if owned then .localOwned else .remote) else .unowned := by
  unfold applySlot
  split <;> rfl

theorem consumeHeads_state (s : State) (c : Fin 16) :
    ((consumeHeads s).chans.get c).state = (s.chans.get c).state := by
  simp only [consumeHeads, Channel.consume, State.setChans_chans, get_tab]
  split <;> rfl

/-- A valid frame that has shown every LOCAL slot keeps the law: LOCAL slots stay LOCAL, no other becomes
so (R43). -/
theorem OwnersOk.applied {s t : State} (h : OwnersOk s)
    (same : t.station = s.station ∧ t.owner.imageFault = s.owner.imageFault ∧ t.profile = s.profile)
    (state : ∀ c, (t.chans.get c).state = (s.chans.get c).state)
    (own : ∀ k, (t.slots.get k).own =
      if s.lif.presence.get k then (if ownedSlot s k then .localOwned else .remote) else .unowned)
    (shown : ∀ k, (s.slots.get k).own = .localOwned → s.lif.presence.get k = true)
    (line : t.lif.line ≠ .frame) : OwnersOk t := by
  obtain ⟨station, imageFault, profile⟩ := same
  refine h.of_owners_of_localIff station imageFault profile state (fun k => ?_) (.of_not_frame line)
  have localIff := h.localIff k
  rw [own]
  by_cases mine : ownedSlot s k = true
  · simp [mine, localIff, shown k (localIff.mpr mine)]
  · have other : (s.slots.get k).own ≠ .localOwned := fun o => mine (localIff.mp o)
    cases s.lif.presence.get k <;> simp [mine, other]

/-! The census (R26 to R29, R44). -/

theorem leaveListen_slots (s : State) : (leaveListen s).slots = (seedLatches s).slots := by
  cases h : s.owner.imageFault <;>
    simp [leaveListen, h, enterObserver, enterActive, seedLatches]

theorem leaveListen_chan (s : State) (c : Fin 16) :
    (leaveListen s).chans.get c = (s.chans.get c).startOwned := by
  cases h : s.owner.imageFault <;>
    simp [leaveListen, h, enterObserver, enterActive, startOwnedChannels]

theorem leaveListen_owner (s : State) :
    (leaveListen s).owner = { s.owner with waitTimer := .stopped } := by
  cases h : s.owner.imageFault <;> simp [leaveListen, h, enterObserver, enterActive]

theorem startOwned_state (ch : Channel) : ch.startOwned.state = ch.state := by
  unfold Channel.startOwned
  split <;> rfl

theorem decideClaims_chan (s : State) (c : Fin 16) :
    (decideClaims s).chans.get c =
      if (s.chans.get c).state = .claiming then
        { s.chans.get c with
          state := if s.owner.seen.get (s.profile.chans.get c).slot then .conflict else .owned }
      else s.chans.get c := by
  simp [decideClaims]

theorem completeCensus_state (s : State) (c : Fin 16) :
    ((completeCensus s).chans.get c).state =
      if (s.chans.get c).state = .claiming then
        if s.owner.seen.get (s.profile.chans.get c).slot then .conflict else .owned
      else (s.chans.get c).state := by
  simp only [completeCensus, leaveListen_chan, startOwned_state, learnWithClaims_keeps,
    reportConflicts_eq, reportAll_state, decideClaims_chan]
  split <;> rfl

theorem completeCensus_own (s : State) (k : Fin 48) :
    ((completeCensus s).slots.get k).own =
      if ownedSlot (completeCensus s) k then .localOwned
      else if s.lif.presence.get k then .remote else .unowned := by
  have owned : ownedSlot (reportConflicts (conflicting s) (decideClaims s)) k
      = ownedSlot (completeCensus s) k :=
    ownedSlot_congr (by simp) (fun c => by
      simp only [completeCensus, leaveListen_chan, startOwned_state, learnWithClaims_keeps]) k
  rw [← owned, completeCensus, leaveListen_slots]
  simp only [seedLatches, State.setSlots_slots, get_tab, learnWithClaims, reportConflicts_keeps,
    decideClaims_keeps]
  split <;> split <;> simp [applySlot_own]

theorem completeCensus_owner (s : State) :
    (completeCensus s).owner = { s.owner with waitTimer := .stopped } := by
  rw [completeCensus, leaveListen_owner]
  simp

theorem completeCensus_station (s : State) : (completeCensus s).station = s.owner.joins := by
  rw [completeCensus, leaveListen_station]
  simp

theorem completeCensus_line (s : State) : (completeCensus s).lif.line = s.lif.line := by
  rw [completeCensus, leaveListen_lif]
  simp

/-- At the completion of the census every decided channel owns its slot or gives it up; only a station
whose image passed has a channel to decide (R28, R29, R44). -/
theorem OwnersOk.completeCensus {s : State} (h : OwnersOk s) (listen : s.station = .listen)
    (line : s.lif.line ≠ .frame) : OwnersOk (completeCensus s) := by
  have none := (h.none (by simp [listen])).1
  have claimed : ∀ c, ((Machine.completeCensus s).chans.get c).state = .owned →
      (s.chans.get c).state = .claiming := by
    intro c owned
    rw [completeCensus_state] at owned
    split at owned
    · assumption
    · exact absurd owned (none c)
  have undecided : ∀ c, ((Machine.completeCensus s).chans.get c).state ≠ .claiming := by
    intro c
    rw [completeCensus_state]
    (repeat' split) <;> simp_all
  exact
    { localIff := fun k => by
        rw [completeCensus_own]
        (repeat' split) <;> simp_all
      distinct := by simpa using h.distinct
      enabled := fun c joining => by
        have claiming := claimed c (joining.resolve_right (undecided c))
        simpa using h.enabled c (.inr claiming)
      active := fun c owned => by
        have passed : s.owner.imageFault = false := by
          by_contra fault
          have unused := h.faulty (by simpa using fault) c
          rw [claimed c owned] at unused
          cases unused
        simp [completeCensus_station, Owner.joins, passed]
      faulty := fun fault c => by
        rw [completeCensus_owner] at fault
        simp [completeCensus_state, h.faulty fault c]
      recorded := .of_not_frame (by rwa [completeCensus_line]) }

theorem OwnersOk.countCensus {s : State} (h : OwnersOk s) : OwnersOk (countCensus s) :=
  h.of_view rfl

theorem OwnersOk.discardRecord {s : State} (h : OwnersOk s) (line : s.lif.line ≠ .frame) :
    OwnersOk (discardRecord s) :=
  h.of_owners rfl (.of_not_frame line)

theorem OwnersOk.censusFrame {s : State} (h : OwnersOk s) (listen : s.station = .listen)
    (line : s.lif.line ≠ .frame) : OwnersOk (censusFrame s) := by
  unfold Machine.censusFrame
  dsimp only
  split
  · exact (h.countCensus.completeCensus (by simpa using listen) (by simpa using line)).discardRecord
      (by rw [completeCensus_line]; simpa using line)
  · have own := (h.none (by simp [listen])).2
    refine (h.countCensus.applied (by simp) (by simp) (fun k => ?_)
      (fun k mine => absurd (by simpa using mine) (own k)) (by simpa using line)).discardRecord
      (by simpa using line)
    simp [learnFrame, appliedSlots, applySlot_own]

/-! #### The frame end -/

theorem OwnersOk.deliver {s : State} (h : OwnersOk s) (tr : Transition) : OwnersOk (deliver tr s) := by
  refine h.of_view (frameView_eq (ownersView_of_moves (deliver_moves tr s) (by simp) (by simp) fun k => ?_)
    (by simp))
  rw [deliver_slots, latchStep_slot]

theorem applyFrame_moves (s : State) : MovesOnly (· = .conditions) s (applyFrame s) := by
  unfold applyFrame
  dsimp only
  split
  · exact .from_eq (setCond_moves _ _) (by simp) (by simp)
  · exact .of_eq (by simp) (by simp)

theorem OwnersOk.acceptFrame {s : State} (h : OwnersOk s) (line : s.lif.line ≠ .frame)
    (shown : ∀ k, (s.slots.get k).own = .localOwned → s.lif.presence.get k = true)
    (between : List (List MidEvent)) : OwnersOk (acceptFrame between s) := by
  refine kept_by_deliverAll (fun e _ h => h.takeMid e) (fun tr _ h => h.deliver tr) _ _
    (OwnersOk.discardRecord ?_ (by simpa using line))
  exact h.applied (by simp) (fun c => ((applyFrame_moves s).keeps c).1)
    (fun k => by rw [applyFrame_slot, applySlot_own]) shown (by simpa using line)

/-- At the CHECK cell of a clean frame an ACTIVE station has recorded every LOCAL slot (R10). -/
theorem OwnersOk.all_recorded {s : State} (h : OwnersOk s) (atCheck : s.AtCheck)
    (clean : s.lif.fault = false) (k : Fin 48) (mine : (s.slots.get k).own = .localOwned) :
    s.lif.presence.get k = true := by
  obtain ⟨-, frame, pos⟩ := atCheck
  obtain ⟨c, owned, -⟩ := (ownedSlot_iff s k).mp ((h.localIff k).mp mine)
  refine h.recorded frame (h.active c owned) clean k mine ?_
  have := k.isLt
  simp only [pos, Config.firstSlotCell]
  omega

/-! A void frame end (R13, R34). -/

theorem endVoid_contention (l : Lif) : l.endVoid.contention = l.contention := by
  unfold Lif.endVoid Lif.countVoid
  split <;> rfl

theorem voidChannel_setLif (s : State) (c : Fin 16) {l : Lif}
    (h : l.contention = s.lif.contention) : (s.setLif l).voidChannel c = s.voidChannel c := by
  simp only [State.voidChannel, State.setLif_chans, State.setLif_profile, State.setLif_lif, h]
  rfl

/-- The state at a void end after the withdrawals, before anything is reported. -/
def State.voided (s : State) : State := withdrawClaims (clearInFlight (s.setLif s.lif.endVoid))

theorem voided_chan (s : State) (c : Fin 16) : s.voided.chans.get c = s.voidChannel c := by
  rw [State.voided, withdrawn_chan, voidChannel_setLif s c (endVoid_contention _)]

theorem voided_slot (s : State) (k : Fin 48) :
    s.voided.slots.get k =
      if s.lif.contention.get k = true ∧ (s.slots.get k).own = .localOwned then
        { s.slots.get k with own := .remote }
      else s.slots.get k := by
  rw [State.voided, withdrawn_slot]
  simp only [State.setLif_lif, State.setLif_slots, endVoid_contention]

/-- What a void end reports, in the order taken: nothing, the backoff, the contest, or both (R18, R34,
R143). -/
theorem endVoid_cases (s : State) :
    voidBacksOff s.lif = false ∧ contended s = [] ∧ endVoid s = s.voided
      ∨ voidBacksOff s.lif = true ∧ contended s = [] ∧ endVoid s = reportBackoff s.voided
      ∨ voidBacksOff s.lif = false ∧ contended s ≠ []
        ∧ endVoid s = reportContest (contended s) s.voided
      ∨ voidBacksOff s.lif = true ∧ contended s ≠ []
        ∧ (endVoid s = reportContest (contended s)
              (reportBackoff (s.voided.setFreeIndex (s.freeIndex + 1)))
          ∨ endVoid s = reportBackoff
              (reportContest (contended s) (s.voided.setFreeIndex (s.freeIndex + 1)))) := by
  have freeIndex : s.voided.freeIndex = s.freeIndex := by simp [State.voided]
  unfold endVoid
  dsimp only
  split <;> rename_i backs calm
  · exact .inl ⟨backs, List.isEmpty_iff.mp calm, rfl⟩
  · exact .inr (.inl ⟨backs, List.isEmpty_iff.mp calm, rfl⟩)
  · exact .inr (.inr (.inl ⟨backs, fun nil => by simp [nil] at calm, rfl⟩))
  · refine .inr (.inr (.inr ⟨backs, fun nil => by simp [nil] at calm, ?_⟩))
    rw [← freeIndex]
    unfold eitherOrder
    dsimp only
    split
    · exact .inl rfl
    · exact .inr rfl

/-- A void end keeps the law, whatever it reports. -/
theorem OwnersOk.endVoid {s : State} (h : OwnersOk (s.setLif s.lif.endVoid)) :
    OwnersOk (endVoid s) := by
  have chan : ∀ c, (s.voided.chans.get c) = (s.setLif s.lif.endVoid).voidChannel c :=
    fun c => withdrawn_chan _ c
  have gap : s.lif.endVoid.line ≠ .frame := by simp [Lif.endVoid]
  rcases endVoid_cases s with
    ⟨-, -, e⟩ | ⟨-, -, e⟩ | ⟨-, -, e⟩ | ⟨-, -, e | e⟩ <;> rw [e] <;>
    refine h.withdraw (by simp [State.voided]) (by simp [State.voided]) (by simp [State.voided])
      (by simp [State.voided]) (fun c => ?_) (by simpa [State.voided] using gap) <;>
    simp only [reportBackoff_eq, reportContest_eq, reportAll_state, State.setFreeIndex_chans, chan]

theorem OwnersOk.takeFrameEnd {s : State} (h : OwnersOk s) (check : Sample)
    (between : List (List MidEvent)) : OwnersOk (endFrame check between s) := by
  by_cases atCheck : s.AtCheck
  · have same : ownersView (s.checked check) = ownersView s := by simp [ownersView]
    rw [endFrame_of_atCheck check between atCheck]
    split
    · rename_i valid
      obtain ⟨rfl, clean⟩ := valid
      have counted : OwnersOk (countValid (s.checked .free)) :=
        h.of_owners (by simp [ownersView]) (.of_not_frame (by simp [countValid_lif, Lif.endValid]))
      have line : (countValid (s.checked .free)).lif.line ≠ .frame := by
        simp [countValid_lif, Lif.endValid]
      have shown : ∀ k, ((countValid (s.checked .free)).slots.get k).own = .localOwned →
          (countValid (s.checked .free)).lif.presence.get k = true := by
        intro k mine
        rw [countValid_lif]
        simp only [Lif.endValid, checked_lif]
        exact h.all_recorded atCheck clean k (by simpa using mine)
      have on' : (s.checked .free).station.onLine = true := by simpa using atCheck.1
      rcases Station.onLine_iff.mp on' with station | station | station
      · rw [endValid_listen between station]
        exact counted.censusFrame (by simpa using station) line
      · rw [endValid_active between station]
        exact OwnersOk.acceptFrame
          (counted.of_view (frameView_eq (ownersView_eq.mpr ⟨by simp, by simp, by simp, by simp,
            consumeHeads_state _⟩) (by simp))) (by simpa using line) (by simpa using shown) between
      · rw [endValid_observer between station]
        exact counted.acceptFrame line shown between
    · have held : OwnersOk ((s.checked check).setLif (s.checked check).lif.endVoid) :=
        h.of_owners same (.of_not_frame (by simp [Lif.endVoid]))
      exact held.endVoid
  · rw [endFrame_of_not_atCheck check between atCheck]
    exact h.of_view (by simp [frameView, ownersView])

/-- Settles O59: each command keeps the law of ownership, by the operation it is. -/
theorem ownershipLawKept : Obligations.OwnershipLawKept := by
  intro s t law hs
  rw [ownershipLaw_iff] at law ⊢
  refine kept_by_step (P := OwnersOk) (fun _ _ h => h.of_view rfl) ?_ law hs
  exact fun c s t h he => kept_by_exec (P := OwnersOk)
    (fun e _ h => h.takeMid e) (fun stn addr _ h => h.resetEnds stn addr)
    (fun b _ h => h.takeImageByte b) (fun _ h => h.censusWaitExpires)
    (fun x between _ h => h.takeFrameEnd x between) h he

end Sys2Proof.Machine

/-! ### Single events of the line (R3 to R7, R17 to R21, R25) -/

namespace Sys2Proof.Machine

open Sys2Proof

/-- A command whose meaning answers the state itself changes nothing. -/
theorem next_self {s t : State} (h : t = s) :
    (Host.Outcome.next t : Host.Outcome State Fault Refusal) = .next s := congrArg _ h

/-- Settles O5: in each case the condition under which the command acts fails. -/
theorem eventsThatDoNotHappen : Obligations.EventsThatDoNotHappen := by
  intro s
  refine ⟨step_nil s, fun stn addr h => next_self (if_neg h), fun b h => next_self (if_neg h),
    fun h => next_self (gapCompletes_of_not_done ?_),
    fun h => next_self (startFrame_of_not_may (.inl ?_)),
    fun h => next_self (if_neg (by simp [h])), fun h => next_self (if_neg (by simp [h])),
    fun h => next_self (if_neg (by simp [h])),
    fun h => next_self (stuckExpires_of_not_due fun due => by simp [State.StuckDue, h] at due),
    fun h => next_self (recoveryExpires_of_not_due fun due => by simp [State.RecoveryDue, h] at due),
    fun i h => next_self (if_neg (by simp [h])), fun pin h => next_self (if_neg (by simp [h])),
    fun p h => next_self (if_neg (by simp [h])),
    fun p h => ⟨next_self (by simp [holdExpires, h]), next_self (by simp [quietExpires, h])⟩,
    fun phase h => next_self (if_neg (by simp [h])),
    fun dst n h => next_self (addressed_elsewhere dst _ s h),
    fun run cell h => congrArg _ (startPatternEnds_of_not_inStart run cell ?_),
    fun check between h => congrArg _ (endFrame_of_not_atCheck check between h)⟩
  · rintro ⟨-, gap, complete⟩
    rcases h with h | h
    · exact h gap
    · omega
  · rw [← Bool.not_eq_true, mayStart_iff]
    rintro ⟨idle, calm, who⟩
    rcases h with h | h | h
    · exact h idle
    · simp [h] at calm
    · simp [h] at who
  · rintro ⟨on, frame, start⟩
    rcases h with h | h | h
    · simp [h] at on
    · exact h frame
    · exact absurd start (Nat.not_lt.mpr h)

/-- Settles O14: a falling edge starts a frame, spoils the gap, or restarts the stuck timer. -/
theorem fallingEdge : Obligations.FallingEdge := by
  intro s
  dsimp only
  have falls (on : s.station.onLine = true) {l : Lif} (h : s.lif.fall = l) :
      exec .fallingEdge s = .next { s with pins := { s.pins with evl := .driven }, lif := l } := by
    subst h
    exact congrArg _ (if_pos on)
  refine ⟨fun on start => falls on ?_, fun on gap early => falls on ?_, fun on frame => falls on ?_,
    fun still => ?_⟩
  · have edge : s.lif.edge = { s.lif with stuckTimer := .running 2 } :=
      if_neg (by rcases start with e | ⟨e, -⟩ <;> simp [e])
    have starts : s.lif.edgeStarts = true := by
      rcases start with e | ⟨e, len⟩ <;> simp [Lif.edgeStarts, *]
    simp only [Lif.fall, starts, if_true, edge]
    rfl
  · have starts : s.lif.edgeStarts = false := by
      simp only [Lif.edgeStarts, gap]
      simpa using early
    simp [Lif.fall, Lif.edge, starts, gap]
    exact ⟨rfl, rfl⟩
  · have starts : s.lif.edgeStarts = false := by simp [Lif.edgeStarts, frame]
    simp [Lif.fall, Lif.edge, starts, frame]
    rfl
  · rcases still with off | stuck
    · exact congrArg _ (if_neg (by simp [off]))
    · have fall : s.lif.fall = s.lif := by simp [Lif.fall, Lif.edge, Lif.edgeStarts, stuck]
      by_cases on : s.station.onLine = true
      · rw [falls on fall]
      · exact congrArg _ (if_neg on)

theorem takeSnapshots_chan (s : State) (c : Fin 16) :
    (takeSnapshots s).chans.get c =
      if (s.chans.get c).state = .owned then
        { s.chans.get c with inFlight := decide ((s.chans.get c).pending ≠ []) }
      else s.chans.get c := by
  simp only [takeSnapshots, State.setChans_chans, get_tab]
  cases (s.chans.get c).pending <;> simp

theorem frameBegins_chan (s : State) (c : Fin 16) :
    (frameBegins s).chans.get c =
      if s.station = .active ∧ (s.chans.get c).state = .owned then
        { s.chans.get c with inFlight := decide ((s.chans.get c).pending ≠ []) }
      else s.chans.get c := by
  unfold frameBegins
  by_cases active : s.station = .active
  · simp [active, takeSnapshots_chan]
  · by_cases listen : s.station = .listen <;> simp [active, listen]

theorem frameBegins_owner (s : State) :
    (frameBegins s).owner =
      if s.station = .listen then { s.owner with waitTimer := .running s.profile.quiet }
      else s.owner := by
  unfold frameBegins
  by_cases active : s.station = .active
  · simp [active]
  · by_cases listen : s.station = .listen <;> simp [active, listen, startCensusWait]

theorem goodStart_iff (run : Nat) (cell : Sample) :
    goodStart run cell = true ↔ 40 ≤ run ∧ run ≤ 50 ∧ cell = .free := by
  simp only [goodStart, Bool.and_eq_true, decide_eq_true_eq, beq_iff_eq, and_assoc]
  rfl

/-- Settles O15: a good run confirms the start, any other is a false start. -/
theorem startPattern : Obligations.StartPattern := by
  intro s run cell on frame start
  have inStart : s.InStart := ⟨on, frame, start⟩
  refine ⟨fun good => ⟨_, rfl, ?_⟩, fun bad => ?_⟩
  · have free := good.2.2
    subst free
    rw [startPatternEnds_of_inStart run .free inStart, if_pos ((goodStart_iff run .free).mpr good)]
    refine ⟨by simp [Lif.stuckSees, Config.firstSlotCell], fun c => ?_, ?_, ?_⟩
    · rw [frameBegins_chan]
      simp
    · rw [frameBegins_owner]
      simp
    · apply State.ext_fields <;> simp [seeLine]
  · have not_good : ¬ goodStart run cell = true := by
      rw [goodStart_iff]
      rintro ⟨low, high, free⟩
      rcases bad with bad | bad | bad
      · omega
      · omega
      · exact bad free
    refine congrArg Host.Outcome.next ((startPatternEnds_of_inStart run cell inStart).trans ?_)
    rw [if_neg not_good]
    by_cases free : cell = .free <;> simp only [Lif.stuckSees, free, if_true, if_false] <;> rfl

/-- Settles O16: FRAME_START drives the line exactly where R5 allows it, and once. -/
theorem frameStart : Obligations.FrameStart := by
  refine ⟨fun s driving => next_self (startFrame_of_not_may (.inr driving)), fun s still => ?_⟩
  refine ⟨fun may => ⟨_, rfl, ?_, ?_⟩, fun not_may => next_self (startFrame_of_not_may (.inl ?_))⟩
  · exact startFrame_of_may ((mayStart_iff s).mpr may) still
  · simp [startFrame_of_may ((mayStart_iff s).mpr may) still, drivesLine]
  · rwa [← Bool.not_eq_true, mayStart_iff]

/-- Settles O20: each timer's expiry raises its flag, or ends backoff, and stops the timer. -/
theorem lineTimerExpiries : Obligations.LineTimerExpiries := by
  refine fun s ms => ⟨fun active runs => ?_, fun listen runs => ?_, fun on runs => ?_⟩
  · exact congrArg _ (if_pos (by simp [active, runs]))
  · exact congrArg _ (if_pos (by simp [listen, runs]))
  · exact congrArg _ (if_pos (by simp [on, runs]))

/-! #### Cells -/

theorem exec_cellSampled {s : State} (on : s.station.onLine = true) (x : Sample) :
    exec (.cellSampled x) s =
      .next
        { s with
          pins := { s.pins with evl := x }
          lif :=
            { cellTaken x s with
              stuckTimer := if x = .free then .stopped else (cellTaken x s).stuckTimer } } := by
  have seen : (cellTaken x s).stuckSees x =
      { cellTaken x s with
        stuckTimer := if x = .free then .stopped else (cellTaken x s).stuckTimer } := by
    unfold Lif.stuckSees
    split <;> rfl
  exact congrArg _ ((if_pos on).trans (by rw [seen]; rfl))

theorem cellTaken_frame {s : State} (frame : s.lif.line = .frame) (x : Sample) :
    cellTaken x s = frameCell x s := by
  simp [cellTaken, frame]

/-- Settles O18: each cell by the line state it falls in. -/
theorem otherCells : Obligations.OtherCells := by
  refine ⟨fun s x on => ?_, fun s x off => congrArg _ (if_neg (by simp [off]))⟩
  refine ⟨fun gap count => ?_, fun gap complete => ?_, fun stuck => ?_, fun idle => ?_,
    fun frame start => ?_, fun frame check => ?_⟩
  · rw [exec_cellSampled on]
    simp only [cellTaken, gap, Lif.gapCell]
    have full : min (s.lif.gapCount + 1) s.lif.gapLen =
        if s.lif.gapCount < s.lif.gapLen then s.lif.gapCount + 1 else s.lif.gapCount := by
      split <;> omega
    by_cases free : x = .free <;> simp [free, full]
  · exact congrArg _ (gapCompletes_of_done ⟨on, gap, complete⟩)
  · rw [exec_cellSampled on]
    simp only [cellTaken, stuck, Lif.stuckCell]
    cases timer : s.lif.recoveryTimer <;> by_cases free : x = .free <;>
      simp [free, timer, stuck, Config.recoveryMs]
  · rw [exec_cellSampled on]
    simp only [cellTaken, idle]
  · rw [exec_cellSampled on, cellTaken_frame frame, frameCell_start x (cellAt_start start)]
    have pos : min (s.lif.pos + 1) 3 = if s.lif.pos < 3 then s.lif.pos + 1 else 3 := by
      split <;> omega
    simp only [pos]
  · rw [exec_cellSampled on, cellTaken_frame frame, frameCell_check x (by rw [check]; rfl)]

end Sys2Proof.Machine

namespace Sys2Proof.Machine

open Sys2Proof

/-! #### The level an owned slot carries (R6, R65) -/

/-- The one OWNED channel of a slot gives the level that the slot carries (R6, R31). -/
theorem slotSnapshot_of_owned {s : State} (law : s.OwnershipLaw) {c : Fin 16}
    (owned : (s.chans.get c).state = .owned) :
    slotSnapshot s (s.profile.chans.get c).slot = (s.chans.get c).snapshot := by
  unfold slotSnapshot
  cases found : (List.finRange 16).find? fun d =>
      (s.chans.get d).state == .owned
        && (s.profile.chans.get d).slot == (s.profile.chans.get c).slot with
  | none =>
    have := List.find?_eq_none.mp found c (List.mem_finRange c)
    simp [owned] at this
  | some d =>
    have mine := List.find?_some found
    simp only [Bool.and_eq_true, beq_iff_eq] at mine
    obtain ⟨-, one, -⟩ := law
    rw [one d c mine.1 owned mine.2]

/-- With a head in flight a channel's frame carries that head, else the sent level (R65). -/
theorem snapshot_cases {ch : Channel} (law : ch.Lawful) :
    (ch.inFlight = true → ch.pending.head? = some ch.snapshot)
      ∧ (ch.inFlight = false → ch.snapshot = ch.sent) := by
  obtain ⟨-, -, -, head⟩ := law
  refine ⟨fun flight => ?_, fun ground => by simp [Channel.snapshot, ground]⟩
  cases pending : ch.pending with
  | nil => exact absurd pending (head flight)
  | cons v rest => simp [Channel.snapshot, flight, pending]

/-- A change of its source does not move the level that a channel's frame carries (R65). -/
theorem snapshot_take {ch : Channel} (law : ch.Lawful) (v : Level) :
    (ch.take v).snapshot = ch.snapshot := by
  obtain ⟨-, -, -, head⟩ := law
  unfold Channel.snapshot
  simp only [Channel.take_keeps]
  by_cases flight : ch.inFlight = true
  · have first : (ch.take v).pending.head? = ch.pending.head? := by
      unfold Channel.take
      (repeat' split)
      · rfl
      · exact head_pendingAfter (head flight) v
      · rfl
    rw [first]
  · simp [flight]

theorem slotSnapshot_congr {s t : State} (profile : t.profile = s.profile)
    (state : ∀ c, (t.chans.get c).state = (s.chans.get c).state)
    (snapshot : ∀ c, (t.chans.get c).snapshot = (s.chans.get c).snapshot) (k : Fin 48) :
    slotSnapshot t k = slotSnapshot s k := by
  simp only [slotSnapshot, profile, state, snapshot]

theorem slotSnapshot_sourceChange {s : State} (law : s.PendingLaw) (src : Source) (v : Level)
    (k : Fin 48) : slotSnapshot (sourceChange src v s) k = slotSnapshot s k := by
  refine slotSnapshot_congr (by simp) (fun c => by simp) (fun c => ?_) k
  rw [sourceChange_chan]
  split
  · exact snapshot_take (law.1 c) _
  · rfl

theorem recorded_eq (x : Sample) : recorded x = decide (x = .driven) := by cases x <;> rfl

/-- Settles O17: what an owned slot carries, and the two cells of a slot. -/
theorem slotCells : Obligations.SlotCells := by
  refine ⟨fun s k c owners pending owned slot => ?_, fun s k x on frame => ?_⟩
  · subst slot
    rw [slotSnapshot_of_owned owners owned]
    exact ⟨(snapshot_cases (pending.1 c)).1, (snapshot_cases (pending.1 c)).2, fun src v => by
      rw [slotSnapshot_sourceChange pending, slotSnapshot_of_owned owners owned]⟩
  · refine ⟨fun pos => ?_, fun pos => ?_⟩
    · have error : presenceError s k x = decide (s.station = .active ∧ x = .ambiguous
          ∨ (s.station = .active ∧ (s.slots.get k).own = .localOwned) ∧ x = .free) := by
        rw [Bool.eq_iff_iff]
        simp only [presenceError, Bool.and_eq_true, Bool.or_eq_true, beq_iff_eq, decide_eq_true_eq]
        tauto
      rw [exec_cellSampled on, cellTaken_frame frame,
        frameCell_presence x (by rw [pos]; exact cellAt_presence k), error, recorded_eq]
    · have contend : contends s k x = decide
          ((s.station = .active ∧ (s.slots.get k).own = .localOwned) ∧ x = .driven
            ∧ slotSnapshot s k = .released) := by
        rw [Bool.eq_iff_iff]
        simp only [contends, Bool.and_eq_true, beq_iff_eq, decide_eq_true_eq]
        tauto
      have error : (levelError s k x || contends s k x) = decide
          (s.station = .active ∧ x = .ambiguous
            ∨ (s.station = .active ∧ (s.slots.get k).own = .localOwned) ∧ x = .free
              ∧ slotSnapshot s k = .asserted
            ∨ (s.station = .active ∧ (s.slots.get k).own = .localOwned) ∧ x = .driven
              ∧ slotSnapshot s k = .released) := by
        rw [contend, Bool.eq_iff_iff]
        simp only [levelError, Bool.and_eq_true, Bool.or_eq_true, beq_iff_eq, decide_eq_true_eq]
        tauto
      rw [exec_cellSampled on, cellTaken_frame frame,
        frameCell_level x (by rw [pos]; exact cellAt_level k), Bool.or_assoc, error, contend,
        recorded_eq]

/-! #### What the station drives (R5, R7, R11) -/

theorem drivesLine_frame {s : State} (frame : s.lif.line = .frame) (still : s.lif.startDrive = 0) :
    drivesLine s = drivesCell s (cellAt s.lif.pos) := by
  simp [drivesLine, frame, still]

/-- Settles O19: the cells of LOCAL slots and the vote, in ACTIVE alone. -/
theorem cellsDriven : Obligations.CellsDriven := by
  have level {s : State} {k : Fin 48} (frame : s.lif.line = .frame) (still : s.lif.startDrive = 0)
      (pos : s.lif.pos = 6 + 2 * k.val) : drivesLine s = true ↔
        s.station = .active ∧ (s.slots.get k).own = .localOwned ∧ slotSnapshot s k = .asserted := by
    rw [drivesLine_frame frame still, pos, cellAt_level]
    simp [drivesCell, and_assoc]
  refine ⟨fun s frame still => ⟨fun k pos => ?_, fun k pos => level frame still pos, fun pos => ?_,
    fun off => ?_⟩, fun s k c owners pending frame still pos owned slot => ?_,
    fun s law off_active off_listen => ?_⟩
  · rw [drivesLine_frame frame still, pos, cellAt_presence]
    simp [drivesCell]
  · rw [drivesLine_frame frame still, pos, cellAt_check]
    simp [drivesCell]
  · rw [drivesLine_frame frame still]
    cases cellAt s.lif.pos <;> simp [drivesCell, off]
  · obtain ⟨localIff, -, -, -, active, -, -⟩ := id owners
    have mine : (s.slots.get k).own = .localOwned :=
      (localIff k).mpr ((ownedSlot_iff s k).mpr ⟨c, owned, slot⟩)
    obtain ⟨flight, ground⟩ := snapshot_cases (pending.1 c)
    rw [level frame still pos, ← slot, slotSnapshot_of_owned owners owned, slot]
    simp only [active c owned, mine, true_and]
    cases inFlight : (s.chans.get c).inFlight with
    | true => simp [flight inFlight]
    | false => simp [ground inFlight]
  · have ok := (lineLaw_iff s).mp law
    have still : s.lif.startDrive = 0 := by
      by_contra drives
      rcases (ok.driving (by omega)).2 with e | e
      · exact off_active e
      · exact off_listen e
    unfold drivesLine
    cases cellAt s.lif.pos <;> simp [still, drivesCell, off_active]

/-! #### The stuck line (R20, R21) -/

/-- The latches after reports that are known to hold at least one record, in the statements' words. -/
theorem reportAll_conds_eq {rs : List Report} {s : State} {latched : Fin 7 → Prop} {lost : Prop}
    [DecidablePred latched] [Decidable lost] (latch : ∀ c, .latch c ∈ rs ↔ latched c)
    (full : overflows rs s ↔ lost) (c : Fin 7) :
    (reportAll rs s).conds.get c =
      (s.conds.get c || decide (latched c) || decide (c = condJournalLost ∧ lost)) := by
  rw [Bool.eq_iff_iff, reportAll_conds, latch, full]
  simp [or_assoc]

/-- Settles O21: LINE_STUCK is entered with a STUCK record, and left with a CLEAR record. -/
theorem stuckLine : Obligations.StuckLine := by
  intro s ms on
  refine ⟨fun runs off => ⟨_, rfl, ?_⟩, fun runs stuck => ⟨_, rfl, ?_⟩⟩
  · have due : s.StuckDue := ⟨on, by rw [runs]; rfl, by rcases off with e | e <;> simp [e]⟩
    have e : stuckExpires s
        = reportAll (lineReports condLineStuck .stuck) (s.setLif s.lif.enterStuck) := by
      rw [stuckExpires_of_due due, if_neg (by rcases off with e | e <;> simp [e]), reportStuck_eq]
    rw [e]
    refine ⟨by simp; rfl, by rw [reportAll_journal]; rfl, fun c => ?_, ?_, ?_, fun c => ?_, ?_⟩
    · refine reportAll_conds_eq (latched := (· = condLineStuck)) (fun c => by simp) ?_ c
      simp [overflows]
      omega
    · simp [stuckHeld, Lif.enterStuck]
    · simp [drivesLine, Lif.enterStuck]
    · rw [reportAll_chan (.inl ⟨condLineStuck, by simp⟩)]
      exact conditionsMove_congr rfl rfl _ c _
    · apply State.ext_fields <;> simp
  · have due : s.RecoveryDue := ⟨on, stuck, by rw [runs]; rfl⟩
    have e : recoveryExpires s = reportAll [.record (.line .clear)]
        (s.setLif { s.lif with line := .idle, recoveryTimer := .stopped }) :=
      recoveryExpires_of_due due
    rw [e]
    have full : overflows [.record (.line .clear)]
        (s.setLif { s.lif with line := .idle, recoveryTimer := .stopped })
          ↔ 32 ≤ s.journal.records.length := by
      simp [overflows]
      omega
    refine ⟨by simp, by rw [reportAll_journal]; rfl, fun c => ?_, ?_, fun c => ?_, ?_⟩
    · rw [Bool.eq_iff_iff, reportAll_conds, full]
      simp
    · simp [stuckHeld]
    · split
      · rw [reportAll_chan (.inr (full.mpr ‹_›))]
        exact conditionsMove_congr rfl rfl _ c _
      · rw [reportAll_chan_idle (by simp [setsAny, *]), conditionsMove_nil]
        rfl
    · apply State.ext_fields <;> simp

end Sys2Proof.Machine

/-! ### Void ends and withdrawals (R13, R18, R20, R34, R69, R70, R143) -/

namespace Sys2Proof.Machine

open Sys2Proof

/-- A channel that owns nothing takes a level without touching its list (R64). -/
theorem take_pending_of_not_owned {ch : Channel} (h : ch.state ≠ .owned) (v : Level) :
    (ch.take v).pending = ch.pending := by
  by_cases same : v = ch.level <;> simp [Channel.take, same, h]

theorem following_pending_of_not_owned {ch : Channel} (h : ch.state ≠ .owned) (invert : Bool)
    (old : Level) (levels : List Level) :
    (ch.following invert old levels).pending = ch.pending := by
  induction levels generalizing ch old with
  | nil => rfl
  | cons v levels ih =>
    rw [Channel.following_cons]
    split
    · exact ih h v
    · rw [ih (by simpa using h), take_pending_of_not_owned h]

theorem conditionsMove_pending_of_not_owned {ch : Channel} (h : ch.state ≠ .owned) (s : State)
    (levels : List Level) (c : Fin 16) : (s.conditionsMove levels c ch).pending = ch.pending := by
  unfold State.conditionsMove
  split
  · exact following_pending_of_not_owned h _ _ _
  · rfl

theorem voidChannel_congr {s t : State} (chans : t.chans = s.chans) (profile : t.profile = s.profile)
    (contention : t.lif.contention = s.lif.contention) (c : Fin 16) :
    t.voidChannel c = s.voidChannel c := by
  simp only [State.voidChannel, chans, profile, contention]

/-- A channel whose slot is contended gives up its claim, its list and its mark (R34, R70). -/
theorem voidChannel_contended {s : State} {c : Fin 16} (owned : (s.chans.get c).state = .owned)
    (contended : s.lif.contention.get (s.profile.chans.get c).slot = true) :
    s.voidChannel c = { s.chans.get c with state := .withdrawn, pending := [], inFlight := false } :=
  if_pos ⟨owned, contended⟩

/-- Any other OWNED channel loses its mark alone (R69). -/
theorem voidChannel_calm {s : State} {c : Fin 16} (owned : (s.chans.get c).state = .owned)
    (calm : s.lif.contention.get (s.profile.chans.get c).slot = false) :
    s.voidChannel c = { s.chans.get c with inFlight := false } := by
  simp [State.voidChannel, owned, calm]

/-- What a void end with its reports leaves of one channel, and what follows for one that owned its slot
(R34, R69, R70). -/
theorem voided_channel_spec {s t : State}
    (chan : ∀ c, t.chans.get c = s.conditionsMove [.asserted] c (s.voidChannel c)) :
    (∀ c, (s.chans.get c).state = .owned →
        s.lif.contention.get (s.profile.chans.get c).slot = true →
        (t.chans.get c).state = .withdrawn ∧ (t.chans.get c).pending = []
          ∧ (t.chans.get c).inFlight = false ∧ (t.chans.get c).sent = (s.chans.get c).sent)
      ∧ ∀ c, (s.chans.get c).state = .owned →
        s.lif.contention.get (s.profile.chans.get c).slot = false →
        (s.profile.chans.get c).source ≠ .conditions →
        t.chans.get c = { s.chans.get c with inFlight := false } := by
  refine ⟨fun c owned contended => ?_, fun c owned calm other => ?_⟩
  · rw [chan, voidChannel_contended owned contended]
    refine ⟨by simp, ?_, by simp, by simp⟩
    rw [conditionsMove_pending_of_not_owned (by simp)]
  · rw [chan, conditionsMove_other other, voidChannel_calm owned calm]

/-! #### The reports of a void end -/

/-- The CLAIM records of a withdrawal (R34). -/
def claimBodies (slots : List (Fin 48)) : List RecordBody := slots.map fun k => .claim k .contest

/-- The record of what is reported of the line, if anything. -/
def lineBodies (line : Option (Fin 7 × LineCause)) : List RecordBody :=
  (line.map fun x => .line x.2).toList

/-- A report list of an event that withdraws the contended claims and may report one thing of the line:
the two blocks stand one after the other, in either order (R143). -/
structure VoidReports (slots : List (Fin 48)) (line : Option (Fin 7 × LineCause)) (rs : List Report) :
    Prop where
  latch : ∀ c, .latch c ∈ rs ↔ c = condContest ∧ slots ≠ [] ∨ ∃ x ∈ line, c = x.1
  bodies : bodies rs = lineBodies line ++ claimBodies slots
    ∨ bodies rs = claimBodies slots ++ lineBodies line

theorem VoidReports.length {slots : List (Fin 48)} {line : Option (Fin 7 × LineCause)}
    {rs : List Report} (h : VoidReports slots line rs) :
    (Machine.bodies rs).length = (claimBodies slots).length + line.toList.length := by
  cases line <;> rcases h.bodies with e | e <;> simp [e, lineBodies, Nat.add_comm]

theorem voidReports_line_only (c : Fin 7) (cause : LineCause) :
    VoidReports [] (some (c, cause)) (lineReports c cause) :=
  ⟨fun d => by simp, .inl rfl⟩

theorem voidReports_claims (slots : List (Fin 48)) : VoidReports slots none (contestReports slots) :=
  ⟨fun d => by simp, .inl (by simp [claimBodies, lineBodies])⟩

theorem voidReports_line_first (slots : List (Fin 48)) (c : Fin 7) (cause : LineCause) :
    VoidReports slots (some (c, cause)) (lineReports c cause ++ contestReports slots) :=
  ⟨fun d => by simp [or_comm], .inl (by simp [claimBodies, lineBodies])⟩

theorem voidReports_claims_first (slots : List (Fin 48)) (c : Fin 7) (cause : LineCause) :
    VoidReports slots (some (c, cause)) (contestReports slots ++ lineReports c cause) :=
  ⟨fun d => by simp, .inr (by simp [claimBodies, lineBodies])⟩

/-- What such reports leave, made on a state with the condition latches, the journal and the profile of
`s`. -/
theorem VoidReports.outcome {slots : List (Fin 48)} {line : Option (Fin 7 × LineCause)}
    {rs : List Report} (h : VoidReports slots line rs) {s b : State} (conds : b.conds = s.conds)
    (journal : b.journal = s.journal) (profile : b.profile = s.profile) :
    (∀ c, (reportAll rs b).conds.get c = true ↔
        s.conds.get c = true ∨ (c = condContest ∧ slots ≠ []) ∨ (∃ x ∈ line, c = x.1)
          ∨ c = condJournalLost
            ∧ 32 - s.journal.records.length < slots.length + line.toList.length)
      ∧ ((reportAll rs b).journal
            = (lineBodies line ++ claimBodies slots).foldl Journal.taking s.journal
        ∨ (reportAll rs b).journal
            = (claimBodies slots ++ lineBodies line).foldl Journal.taking s.journal)
      ∧ (slots ≠ [] ∨ line.isSome = true → ∀ c,
          (reportAll rs b).chans.get c = s.conditionsMove [.asserted] c (b.chans.get c)) := by
  refine ⟨fun c => ?_, ?_, fun some_ c => ?_⟩
  · rw [reportAll_conds, h.latch, overflows, h.length, conds, journal]
    simp only [claimBodies, List.length_map, or_assoc]
  · rw [reportAll_journal, journal]
    rcases h.bodies with e | e
    · exact .inl (by rw [e])
    · exact .inr (by rw [e])
  · have sets : setsAny rs b := by
      refine .inl ?_
      rcases some_ with some_ | some_
      · exact ⟨condContest, (h.latch _).mpr (.inl ⟨rfl, some_⟩)⟩
      · obtain ⟨x, e⟩ := Option.isSome_iff_exists.mp some_
        exact ⟨x.1, (h.latch _).mpr (.inr ⟨x, e, rfl⟩)⟩
    rw [reportAll_chan sets, conditionsMove_congr conds profile]

/-- What a void end reports of the line (R18). -/
def voidLine (l : Lif) : Option (Fin 7 × LineCause) :=
  if voidBacksOff l then some (condBackoff, .backoff) else none

/-- A void end withdraws, then reports; only the choice between two orders spends a free value. -/
theorem endVoid_reports (s : State) :
    ∃ rs n, endVoid s = reportAll rs (s.voided.setFreeIndex n)
      ∧ VoidReports (contended s) (voidLine s.lif) rs
      ∧ (voidBacksOff s.lif = false ∨ contended s = [] → n = s.freeIndex) := by
  have same : s.voided.setFreeIndex s.freeIndex = s.voided := by
    apply State.ext_fields <;> simp [State.voided]
  rcases endVoid_cases s with
    ⟨backs, calm, e⟩ | ⟨backs, calm, e⟩ | ⟨backs, some_, e⟩ | ⟨backs, some_, e | e⟩ <;>
    simp only [voidLine, backs, e]
  · exact ⟨[], s.freeIndex, same.symm, calm ▸ voidReports_claims [], fun _ => rfl⟩
  · exact ⟨lineReports condBackoff .backoff, s.freeIndex, by rw [same, reportBackoff_eq],
      calm ▸ voidReports_line_only _ _, fun _ => rfl⟩
  · exact ⟨contestReports (contended s), s.freeIndex, by rw [same, reportContest_eq],
      voidReports_claims _, fun _ => rfl⟩
  · exact ⟨_, s.freeIndex + 1, by rw [reportContest_eq, reportBackoff_eq, ← reportAll_append],
      voidReports_line_first _ _ _, fun one => by simp [some_] at one⟩
  · exact ⟨_, s.freeIndex + 1, by rw [reportContest_eq, reportBackoff_eq, ← reportAll_append],
      voidReports_claims_first _ _ _, fun one => by simp [some_] at one⟩

/-- A frame that the stuck line abandons withdraws, then reports (R20, R35). -/
theorem stuckExpires_reports {s : State} (due : s.StuckDue) (frame : s.lif.line = .frame) :
    ∃ rs n, stuckExpires s = reportAll rs
        (((withdrawClaims (clearInFlight s)).setLif s.lif.enterStuck).setFreeIndex n)
      ∧ VoidReports (contended s) (some (condLineStuck, .stuck)) rs := by
  rw [stuckExpires_of_due due, if_pos frame]
  have freeIndex : ((withdrawClaims (clearInFlight s)).setLif s.lif.enterStuck).freeIndex
      = s.freeIndex := by simp
  split
  · rename_i calm
    have same : ((withdrawClaims (clearInFlight s)).setLif s.lif.enterStuck).setFreeIndex s.freeIndex
        = (withdrawClaims (clearInFlight s)).setLif s.lif.enterStuck := by
      apply State.ext_fields <;> simp
    exact ⟨lineReports condLineStuck .stuck, s.freeIndex, by rw [same, reportStuck_eq],
      List.isEmpty_iff.mp calm ▸ voidReports_line_only _ _⟩
  · unfold eitherOrder
    dsimp only
    rw [freeIndex]
    split
    · exact ⟨_, s.freeIndex + 1, by rw [reportContest_eq, reportStuck_eq, ← reportAll_append],
        voidReports_line_first _ _ _⟩
    · exact ⟨_, s.freeIndex + 1, by rw [reportContest_eq, reportStuck_eq, ← reportAll_append],
        voidReports_claims_first _ _ _⟩

/-- Settles O22: the frame is abandoned, its contended claims withdrawn, and the stuck line reported. -/
theorem stuckInFrame : Obligations.StuckInFrame := by
  intro s ms on runs frame
  dsimp only
  obtain ⟨rs, n, e, reports⟩ :=
    stuckExpires_reports ⟨on, by rw [runs]; rfl, by simp [frame]⟩ frame
  obtain ⟨conds, journal, chan⟩ := reports.outcome (s := s)
    (b := ((withdrawClaims (clearInFlight s)).setLif s.lif.enterStuck).setFreeIndex n)
    (by simp) (by simp) (by simp)
  replace chan := fun c => (chan (.inr rfl) c).trans
    (congrArg (s.conditionsMove [.asserted] c) (withdrawn_chan s c))
  obtain ⟨withdrawn, calm⟩ := voided_channel_spec chan
  refine ⟨_, rfl, ?_⟩
  rw [e]
  refine ⟨?_, ?_, fun some_ => ?_, fun c => ?_, chan, journal, withdrawn, calm, fun k => ?_, ?_⟩
  · simp only [reportAll_keeps, State.setFreeIndex_lif, State.setLif_lif]
    rfl
  · exact (conds _).mpr (.inr (.inr (.inl ⟨_, rfl, rfl⟩)))
  · exact (conds _).mpr (.inr (.inl ⟨rfl, some_⟩))
  · have full : 32 - s.journal.records.length < (contended s).length + 1
        ↔ 32 < s.journal.records.length + 1 + (contended s).length := by omega
    rw [Bool.eq_iff_iff, conds]
    simp only [Option.toList_some, List.length_singleton, Bool.or_eq_true, decide_eq_true_eq,
      List.length_map, contended, Option.mem_def, Option.some.injEq, exists_eq_left']
    tauto
  · simp only [reportAll_keeps, State.setFreeIndex_slots, State.setLif_slots, withdrawn_slot]
  · apply State.ext_fields <;> simp

/-! #### Void frame ends (R13) -/

/-- The line interface at a void end, with its backoff (R13, R18). -/
theorem endVoid_lif_eq (l : Lif) :
    l.endVoid =
      { l with
        line := .gap, gapCount := 0, gapLen := 6, presence := allFree, level := allFree
        voidCount := if l.voidCount < 7 then l.voidCount + 1 else 0
        backoff := if l.voidCount < 7 then l.backoff else true
        backoffTimer := if l.voidCount < 7 then l.backoffTimer else .running 50 } := by
  have below : l.voidCount + 1 < Config.backoffVoids ↔ l.voidCount < 7 := by
    simp only [Config.backoffVoids]
    omega
  unfold Lif.endVoid Lif.countVoid
  by_cases h : l.voidCount < 7 <;> simp only [below, h, if_true, if_false] <;> rfl

theorem voidBacksOff_iff (l : Lif) : voidBacksOff l = true ↔ 7 ≤ l.voidCount := by
  simp [voidBacksOff, Config.backoffVoids]

theorem checkError_eq (s : State) (check : Sample) :
    checkError s check = decide (s.station = .active ∧ check = .ambiguous) := by
  rw [Bool.eq_iff_iff]
  simp [checkError]

theorem contended_checked (check : Sample) (s : State) :
    contended (s.checked check) = contended s := by
  simp [contended, checked_lif]

/-- What a void frame end leaves: the line interface, the withdrawals, and what it reports. -/
theorem exec_frameEnd_void {s : State} (atCheck : s.AtCheck) {check : Sample}
    (void : check ≠ .free ∨ s.lif.fault = true) (between : List (List MidEvent)) :
    ∃ rs b n, exec (.frameEnd check between) s = .next (reportAll rs b)
      ∧ VoidReports (contended s) (voidLine s.lif) rs
      ∧ (voidBacksOff s.lif = false ∨ contended s = [] → n = s.freeIndex)
      ∧ b.lif =
        { s.lif with
          line := .gap, gapCount := 0, gapLen := 6, presence := allFree, level := allFree
          fault := s.lif.fault || decide (s.station = .active ∧ check = .ambiguous)
          stuckTimer := if check = .free then .stopped else s.lif.stuckTimer
          voidCount := if s.lif.voidCount < 7 then s.lif.voidCount + 1 else 0
          backoff := if s.lif.voidCount < 7 then s.lif.backoff else true
          backoffTimer := if s.lif.voidCount < 7 then s.lif.backoffTimer else .running 50 }
      ∧ (∀ c, b.chans.get c = s.voidChannel c)
      ∧ (∀ k, b.slots.get k =
          if s.lif.contention.get k = true ∧ (s.slots.get k).own = .localOwned then
            { s.slots.get k with own := .remote }
          else s.slots.get k)
      ∧ b =
        { s with
          pins := { s.pins with evl := check }, lif := b.lif, chans := b.chans, slots := b.slots
          freeIndex := n } := by
  have not_valid : ¬ (check = .free ∧ s.lif.fault = false) := by
    rintro ⟨free, clean⟩
    rcases void with e | e
    · exact e free
    · simp [clean] at e
  have same : voidLine (s.checked check).lif = voidLine s.lif
      ∧ voidBacksOff (s.checked check).lif = voidBacksOff s.lif := by
    simp [voidLine, voidBacksOff, checked_lif]
  obtain ⟨rs, n, e, reports, free⟩ := endVoid_reports (s.checked check)
  rw [contended_checked, same.1] at reports
  rw [contended_checked, same.2] at free
  refine ⟨rs, (s.checked check).voided.setFreeIndex n, n, congrArg Host.Outcome.next ?_, reports, fun one => by simpa using free one, ?_,
    fun c => ?_, fun k => ?_, ?_⟩
  · exact (endFrame_of_atCheck check between atCheck).trans ((if_neg not_valid).trans e)
  · simp only [State.setFreeIndex_lif, State.voided, withdrawClaims_keeps, clearInFlight_keeps,
      State.setLif_lif, endVoid_lif_eq, checked_lif, checkError_eq]
  · rw [State.setFreeIndex_chans, voided_chan]
    exact voidChannel_congr (by simp) (by simp) (by simp [checked_lif]) c
  · rw [State.setFreeIndex_slots, voided_slot]
    simp [checked_lif]
  · apply State.ext_fields <;> simp [State.voided]

theorem voidLine_of_below {l : Lif} (h : l.voidCount < 7) : voidLine l = none := by
  simp only [voidLine, voidBacksOff_iff]
  exact if_neg (by omega)

theorem voidLine_of_eighth {l : Lif} (h : 7 ≤ l.voidCount) :
    voidLine l = some (condBackoff, .backoff) :=
  if_pos ((voidBacksOff_iff l).mpr h)

theorem reportAll_lif (rs : List Report) (s : State) : (reportAll rs s).lif = s.lif := by simp

/-- With nothing to report there are no reports. -/
theorem VoidReports.eq_nil {rs : List Report} (h : VoidReports [] none rs) : rs = [] := by
  refine List.eq_nil_iff_forall_not_mem.mpr fun r mem => ?_
  cases r with
  | latch c => simpa using (h.latch c).mp mem
  | record body =>
    have : body ∈ Machine.bodies rs := List.mem_filterMap.mpr ⟨_, mem, rfl⟩
    rcases h.bodies with e | e <;> simp [e, lineBodies, claimBodies] at this

/-- Settles O29: without contention a void end counts, and at the eighth enters backoff. -/
theorem voidEnd : Obligations.VoidEnd := by
  intro s check between atCheck void calm
  dsimp only
  have none : contended s = [] := by simp [contended, calm]
  have chan : ∀ c, s.voidChannel c =
      if (s.chans.get c).state = .owned then { s.chans.get c with inFlight := false }
      else s.chans.get c := fun c => by simp [State.voidChannel, calm]
  obtain ⟨rs, b, n, e, reports, free, lif, chans, slots, frame⟩ :=
    exec_frameEnd_void atCheck void between
  have slots_eq : b.slots = s.slots := tab_ext fun k => by rw [slots]; simp [calm]
  rw [none] at reports
  rw [free (.inr none), slots_eq] at frame
  refine ⟨fun below => ?_, fun eighth => ⟨_, e, ?_⟩⟩
  · rw [voidLine_of_below below] at reports
    have chans_eq : b.chans = tab fun c =>
        if (s.chans.get c).state = .owned then { s.chans.get c with inFlight := false }
        else s.chans.get c := tab_ext fun c => by rw [chans, chan, get_tab]
    rw [e, reports.eq_nil, reportAll_nil, frame, chans_eq, lif]
    simp only [below, if_true]
  · have fields : b.conds = s.conds ∧ b.journal = s.journal ∧ b.profile = s.profile := by
      rw [frame]; simp
    obtain ⟨conds, journal, moves⟩ := reports.outcome fields.1 fields.2.1 fields.2.2
    rw [voidLine_of_eighth eighth] at conds journal moves
    refine ⟨?_, fun c => ?_, ?_, fun c => ?_, ?_⟩
    · rw [reportAll_lif, lif]
      simp only [Nat.not_lt.mpr eighth, if_false]
    · have full : 32 - s.journal.records.length < 1 ↔ 32 ≤ s.journal.records.length := by omega
      rw [Bool.eq_iff_iff, conds]
      simp [full, or_assoc]
    · rcases journal with j | j <;> exact j
    · rw [moves (.inr rfl), chans, chan]
    · rw [frame]
      apply State.ext_fields <;> simp

/-- Settles O30: a void end with contention withdraws the contended claims and reports them. -/
theorem voidEndWithdraws : Obligations.VoidEndWithdraws := by
  intro s check between atCheck void
  dsimp only
  intro some_
  obtain ⟨rs, b, n, e, reports, free, lif, chans, slots, frame⟩ :=
    exec_frameEnd_void atCheck void between
  have fields : b.conds = s.conds ∧ b.journal = s.journal ∧ b.profile = s.profile := by
    rw [frame]; simp
  obtain ⟨conds, journal, moves⟩ := reports.outcome fields.1 fields.2.1 fields.2.2
  have chan : ∀ c, (reportAll rs b).chans.get c
      = s.conditionsMove [.asserted] c (s.voidChannel c) := fun c => by
    rw [moves (.inl some_), chans]
  obtain ⟨withdrawn, calm⟩ := voided_channel_spec chan
  have lif' : (reportAll rs b).lif = _ := (reportAll_lif rs b).trans lif
  refine ⟨_, e, (conds _).mpr (.inr (.inl ⟨rfl, some_⟩)), lif', fun c => ?_, chan, fun below => ?_,
    fun eighth => ?_, withdrawn, calm, fun k => ?_, by rw [lif'], by rw [lif'], by rw [lif'], ?_⟩
  · have claims : (List.map (fun k => RecordBody.claim k .contest)
        ((List.finRange 48).filter fun k => s.lif.contention.get k)).length
          = (contended s).length := List.length_map _
    have some_' : contended s ≠ [] := some_
    have some_len : 0 < (contended s).length := List.length_pos_iff.mpr some_'
    rw [Bool.eq_iff_iff, conds, claims]
    by_cases eighth : 7 ≤ s.lif.voidCount
    · have full : 32 - s.journal.records.length < (contended s).length + 1
          ↔ 32 < s.journal.records.length + (contended s).length + 1 := by omega
      simp [voidLine_of_eighth eighth, full, eighth, some_', or_assoc]
    · have full : 32 - s.journal.records.length < (contended s).length
          ↔ 32 < s.journal.records.length + (contended s).length := by omega
      simp [voidLine_of_below (Nat.not_le.mp eighth), full, eighth, some_', or_assoc]
  · rw [voidLine_of_below below] at journal
    refine ⟨by rw [lif']; exact if_pos below, by rw [lif']; exact if_pos below, ?_, ?_⟩
    · rcases journal with j | j
      · exact j
      · exact j.trans (by rw [lineBodies, Option.map_none, Option.toList_none, List.append_nil]; rfl)
    · have kept : b.freeIndex = n := by rw [frame]
      rw [← free (.inl (Bool.eq_false_iff.mpr fun backs => by
        have := (voidBacksOff_iff _).mp backs
        omega)), ← kept]
      simp
  · have above : ¬ s.lif.voidCount < 7 := Nat.not_lt.mpr eighth
    rw [voidLine_of_eighth eighth] at journal
    exact ⟨by rw [lif']; exact if_neg above, by rw [lif']; exact if_neg above,
      (conds _).mpr (.inr (.inr (.inl ⟨_, voidLine_of_eighth eighth, rfl⟩))), journal⟩
  · simp only [reportAll_keeps, slots]
  · rw [frame]
    apply State.ext_fields <;> simp

end Sys2Proof.Machine

/-! ### A valid frame end (R12, R36, R43 to R49, R67)

At an ACTIVE or OBSERVER station a valid frame end first takes the whole frame, which gives
`State.applied`, and then delivers the transitions of the changed slots one after another. -/

namespace Sys2Proof.Machine

open Sys2Proof

theorem Station.delivers_iff {st : Station} : st.delivers = true ↔ st = .active ∨ st = .observer := by
  cases st <;> simp [Station.delivers]

/-- The frame taken by the line interface and the transmit side, before it is applied (R12, R67). -/
def State.framed (s : State) : State :=
  if s.station = .active then consumeHeads (countValid (s.checked .free))
  else countValid (s.checked .free)

/-- The frame taken whole, before its first delivery (R12, R43). -/
def State.applied (s : State) : State := discardRecord (applyFrame s.framed)

/-- The line interface and the transmit side take a frame in their own fields only. -/
@[simp] theorem framed_keeps (s : State) :
    s.framed.station = s.station ∧ s.framed.cause = s.cause
      ∧ s.framed.stationCode = s.stationCode ∧ s.framed.addrCode = s.addrCode
      ∧ s.framed.profile = s.profile ∧ s.framed.loader = s.loader ∧ s.framed.owner = s.owner
      ∧ s.framed.slots = s.slots ∧ s.framed.soft = s.soft ∧ s.framed.inputs = s.inputs
      ∧ s.framed.host = s.host ∧ s.framed.patterns = s.patterns ∧ s.framed.conds = s.conds
      ∧ s.framed.blink = s.blink ∧ s.framed.journal = s.journal ∧ s.framed.port = s.port
      ∧ s.framed.pins = { s.pins with evl := .free } ∧ s.framed.freeIndex = s.freeIndex
      ∧ s.framed.pending = s.pending := by
  unfold State.framed
  split <;> simp

theorem framed_lif (s : State) :
    s.framed.lif =
      { s.lif with
        line := .gap, gapCount := 0, gapLen := 6
        refresh := false
        announce := s.lif.announce && !s.lif.announceAtStart
        census := s.lif.census && !s.lif.censusAtStart
        voidCount := 0, validCount := s.lif.validCount + 1
        stuckTimer := .stopped
        refreshTimer :=
          if s.station = .active ∧ s.profile.refresh ≠ 0 then .running (10 * s.profile.refresh)
          else s.lif.refreshTimer } := by
  have lif : s.framed.lif = (countValid (s.checked .free)).lif := by
    unfold State.framed
    split <;> simp
  rw [lif, countValid_lif]
  simp [Lif.endValid, checked_lif, checkError, Config.shortGap]

theorem framed_chan (s : State) (c : Fin 16) :
    s.framed.chans.get c = if s.station = .active then (s.chans.get c).consume else s.chans.get c := by
  unfold State.framed
  split <;> simp [consumeHeads]

theorem consume_eq (ch : Channel) :
    ch.consume =
      if ch.state = .owned ∧ ch.inFlight = true then
        { ch with
          sent := ch.pending.head?.getD ch.sent, pending := ch.pending.tail, inFlight := false }
      else ch := by
  unfold Channel.consume Channel.snapshot
  split
  · simp [*]
  · rfl

theorem framed_state (s : State) (c : Fin 16) :
    (s.framed.chans.get c).state = (s.chans.get c).state := by
  rw [framed_chan]
  split
  · rw [consume_eq]
    split <;> rfl
  · rfl

/-- A valid frame loses some REMOTE slot its owner (R36). -/
def State.losses (s : State) : Bool :=
  decide (∃ k, (s.slots.get k).own = .remote ∧ s.lif.presence.get k = false)

theorem losesOwner_framed (s : State) : (List.finRange 48).any (losesOwner s.framed) = s.losses := by
  rw [Bool.eq_iff_iff]
  simp [losesOwner, State.losses, framed_lif]

/-- The frame is applied, and the OWNER_LOST report made if a slot loses its owner (R36, R43). -/
theorem applyFrame_eq (s : State) :
    applyFrame s = reportAll (if (List.finRange 48).any (losesOwner s) then [.latch condOwnerLost] else [])
      (s.setSlots (appliedSlots s)) := by
  unfold applyFrame
  dsimp only
  split <;> rfl

theorem applied_lif (s : State) :
    s.applied.lif = { s.framed.lif with presence := allFree, level := allFree } := by
  simp [State.applied, discardRecord, Lif.discard]
  rfl

theorem applied_slot (s : State) (k : Fin 48) :
    s.applied.slots.get k =
      { s.slots.get k with
        level := s.frameLevel k
        own :=
          if s.lif.presence.get k = false then .unowned
          else if ∃ c, (s.chans.get c).state = .owned ∧ (s.profile.chans.get c).slot = k then
            .localOwned
          else .remote } := by
  have owned : ownedSlot s.framed k = ownedSlot s k := ownedSlot_congr (by simp) (framed_state s) k
  simp only [State.applied, discardRecord_keeps, applyFrame_slot, owned, framed_keeps, applySlot,
    framed_lif, ← ownedSlot_iff, State.frameLevel, Level.ofDriven]
  cases s.lif.presence.get k <;> cases s.lif.level.get k <;> simp

theorem applied_conds (s : State) (c : Fin 7) :
    s.applied.conds.get c = true ↔ s.conds.get c = true ∨ c = condOwnerLost ∧ s.losses = true := by
  simp only [State.applied, discardRecord_keeps, applyFrame_eq, losesOwner_framed, reportAll_conds,
    State.setSlots_conds, framed_keeps]
  cases lost : s.losses <;> simp [overflows]

/-- A channel once its head in flight is consumed in ACTIVE (R67). -/
def State.keptChannel (s : State) (c : Fin 16) : Channel :=
  if s.station = .active ∧ (s.chans.get c).state = .owned ∧ (s.chans.get c).inFlight = true then
    { s.chans.get c with
      sent := (s.chans.get c).pending.head?.getD (s.chans.get c).sent
      pending := (s.chans.get c).pending.tail, inFlight := false }
  else s.chans.get c

theorem framed_chan_eq (s : State) (c : Fin 16) : s.framed.chans.get c = s.keptChannel c := by
  rw [framed_chan, consume_eq, State.keptChannel]
  by_cases active : s.station = .active <;> simp [active]

theorem applied_chan (s : State) (c : Fin 16) :
    s.applied.chans.get c =
      s.conditionsMove (if s.losses = true then [.asserted] else []) c (s.keptChannel c) := by
  simp only [State.applied, discardRecord_keeps, applyFrame_eq, losesOwner_framed]
  split
  · rw [reportAll_chan (.inl ⟨condOwnerLost, by simp⟩), State.setSlots_chans, framed_chan_eq]
    exact conditionsMove_congr (by simp) (by simp) _ c _
  · rw [reportAll_nil, State.setSlots_chans, framed_chan_eq, conditionsMove_nil]

/-- Taking a frame touches only: pins, lif, slots, conds, chans. -/
@[simp] theorem applied_keeps (s : State) :
    s.applied.station = s.station ∧ s.applied.cause = s.cause
      ∧ s.applied.stationCode = s.stationCode ∧ s.applied.addrCode = s.addrCode
      ∧ s.applied.profile = s.profile ∧ s.applied.loader = s.loader ∧ s.applied.owner = s.owner
      ∧ s.applied.soft = s.soft ∧ s.applied.inputs = s.inputs
      ∧ s.applied.host = s.host ∧ s.applied.patterns = s.patterns
      ∧ s.applied.blink = s.blink ∧ s.applied.journal = s.journal ∧ s.applied.port = s.port
      ∧ s.applied.pins = { s.pins with evl := .free } ∧ s.applied.freeIndex = s.freeIndex
      ∧ s.applied.pending = s.pending := by
  simp [State.applied]

theorem applied_spec (s : State) : s.Applied s.applied := by
  refine ⟨?_, applied_slot s, applied_conds s, fun c => ?_, ?_⟩
  · rw [applied_lif, framed_lif]
  · exact applied_chan s c
  · apply State.ext_fields <;> simp

/-! #### The transitions -/

theorem filterMap_ite {α β : Type} (p : α → Bool) (f : α → β) (l : List α) :
    (l.filterMap fun a => if p a then some (f a) else none) = (l.filter p).map f := by
  induction l with
  | nil => rfl
  | cons a l ih => cases h : p a <;> simp [h, ih]

/-- The transitions of a frame are those of the slots that it changes, ascending (R45, R46). -/
theorem transitions_framed (s : State) :
    transitions s.framed = s.changedSlots.map s.frameTransition := by
  have at_ : transitionAt s.framed = fun k =>
      if decide (s.frameLevel k ≠ (s.slots.get k).level) then some (s.frameTransition k) else none := by
    funext k
    have level : ((appliedSlots s.framed).get k).level = s.frameLevel k := by
      have slot : (appliedSlots s.framed).get k = s.applied.slots.get k := by
        simp [State.applied, appliedSlots]
      rw [slot, applied_slot]
    simp only [transitionAt, level, framed_keeps, State.frameTransition]
    by_cases same : s.frameLevel k = (s.slots.get k).level <;> simp [same, framed_lif]
  rw [transitions, at_, filterMap_ite]
  rfl

/-- A valid frame end at an ACTIVE or OBSERVER station (R12, R46). -/
theorem exec_frameEnd_valid {s : State} (atCheck : s.AtCheck)
    (station : s.station = .active ∨ s.station = .observer) (clean : s.lif.fault = false)
    (between : List (List MidEvent)) :
    exec (.frameEnd .free between) s =
      .next (deliverAll (s.changedSlots.map s.frameTransition) between s.applied) := by
  have valid : endFrame .free between s = endValid between (s.checked .free) :=
    (endFrame_of_atCheck .free between atCheck).trans (if_pos ⟨rfl, clean⟩)
  have accepted : endValid between (s.checked .free) = acceptFrame between s.framed := by
    rcases station with active | observer
    · rw [endValid_active between (by simpa using active), State.framed, if_pos active]
    · rw [endValid_observer between (by simpa using observer), State.framed,
        if_neg (by simp [observer])]
  refine congrArg Host.Outcome.next ((valid.trans accepted).trans ?_)
  rw [acceptFrame, transitions_framed, State.applied]

/-- The frame's transitions delivered with no event between them (R46). -/
def deliverEach (trs : List Transition) (s : State) : State := trs.foldl (fun s tr => deliver tr s) s

theorem deliverEach_cons (tr : Transition) (trs : List Transition) (s : State) :
    deliverEach (tr :: trs) s = deliverEach trs (deliver tr s) := List.foldl_cons ..

theorem deliverAll_quiet (trs : List Transition) {s : State} (h : s.station.delivers = true) :
    deliverAll trs [] s = deliverEach trs s := by
  induction trs generalizing s with
  | nil => rfl
  | cons tr trs ih =>
    have delivers : (deliver tr s).station.delivers = true := by simpa using h
    simp only [deliverAll, List.headD_nil, takeMids, List.foldl_nil, h, if_true, List.tail_nil,
      ih delivers, deliverEach_cons]

/-- Deliveries touch only: slots, patterns, journal, conds, chans. -/
@[simp] theorem deliverEach_keeps (trs : List Transition) (s : State) :
    (deliverEach trs s).station = s.station ∧ (deliverEach trs s).cause = s.cause
      ∧ (deliverEach trs s).stationCode = s.stationCode ∧ (deliverEach trs s).addrCode = s.addrCode
      ∧ (deliverEach trs s).profile = s.profile ∧ (deliverEach trs s).loader = s.loader
      ∧ (deliverEach trs s).lif = s.lif ∧ (deliverEach trs s).owner = s.owner
      ∧ (deliverEach trs s).soft = s.soft ∧ (deliverEach trs s).inputs = s.inputs
      ∧ (deliverEach trs s).host = s.host ∧ (deliverEach trs s).blink = s.blink
      ∧ (deliverEach trs s).port = s.port ∧ (deliverEach trs s).pins = s.pins
      ∧ (deliverEach trs s).freeIndex = s.freeIndex ∧ (deliverEach trs s).pending = s.pending := by
  unfold deliverEach
  induction trs generalizing s with
  | nil => simp
  | cons tr trs ih =>
    simp only [List.foldl_cons, ih]
    simp

theorem deliverEach_moves (trs : List Transition) (s : State) :
    MovesOnly Source.ofDelivery s (deliverEach trs s) :=
  .foldl (fun s tr => deliver_moves tr s) trs s

/-- A valid frame end with no event between its deliveries. -/
theorem exec_frameEnd_quiet {s : State} (atCheck : s.AtCheck)
    (station : s.station = .active ∨ s.station = .observer) (clean : s.lif.fault = false) :
    exec (.frameEnd .free []) s =
      .next (deliverEach (s.changedSlots.map s.frameTransition) s.applied) := by
  rw [exec_frameEnd_valid atCheck station clean, deliverAll_quiet]
  simpa using Station.delivers_iff.mpr station

/-- Settles O23: deliveries leave the line interface as the applied frame has it. -/
theorem validEndLine : Obligations.ValidEndLine := by
  intro s atCheck station clean
  refine ⟨_, exec_frameEnd_quiet atCheck station clean, ?_, ?_⟩
  · simp only [deliverEach_keeps, applied_lif, framed_lif]
  · apply State.ext_fields <;> simp

/-- Settles O25: the head in flight becomes the sent level, and deliveries move a channel by its source
alone. -/
theorem validEndHeads : Obligations.ValidEndHeads := by
  intro s atCheck active clean law
  refine ⟨_, exec_frameEnd_quiet atCheck (.inl active) clean, fun c => ?_⟩
  have moves := deliverEach_moves (s.changedSlots.map s.frameTransition) s.applied
  obtain ⟨-, not_owned, -, head⟩ := law.1 c
  have flight_owned : (s.chans.get c).inFlight = true → (s.chans.get c).state = .owned := by
    intro flight
    by_contra other
    simp [(not_owned other).2] at flight
  obtain ⟨state, sent, inFlight⟩ := moves.keeps c
  rw [state, sent, inFlight, applied_chan]
  simp only [conditionsMove_keeps]
  cases flight : (s.chans.get c).inFlight with
  | true =>
    have owned := flight_owned flight
    refine ⟨by simp [State.keptChannel, active, owned, flight],
      by simp [State.keptChannel, active, owned, flight], fun _ => ?_, fun ground => by simp at ground,
      fun no_pattern no_cond => ?_⟩
    · cases pending : (s.chans.get c).pending with
      | nil => exact absurd pending (head flight)
      | cons v rest => simp [State.keptChannel, active, owned, flight, pending]
    · rw [moves.chan_eq (by rintro (e | ⟨p, e⟩) <;> simp_all), applied_chan, conditionsMove_other no_cond]
      simp [State.keptChannel, active, owned, flight]
  | false =>
    refine ⟨by simp [State.keptChannel, flight], by simp [State.keptChannel, flight],
      fun f => by simp at f, fun _ => by simp [State.keptChannel, flight],
      fun no_pattern no_cond => ?_⟩
    rw [moves.chan_eq (by rintro (e | ⟨p, e⟩) <;> simp_all), applied_chan, conditionsMove_other no_cond]
    simp [State.keptChannel, flight]

end Sys2Proof.Machine

/-! ### The deliveries of a frame (R46 to R49) -/

namespace Sys2Proof.Machine

open Sys2Proof

/-- What every accepted request but RESTART leaves of the station. -/
theorem requestActions_station : ∀ act ∈ requestActions, ∀ tag ops s,
    ((act tag ops s).station, (act tag ops s).addrCode) = (s.station, s.addrCode) := by
  simp [requestActions]

/-- An event that is no reset leaves the station's state and the port's address. -/
theorem takeMid_station {e : MidEvent} {s : State} (h : isReset (portAddress s) e = false) :
    (takeMid e s).station = s.station ∧ (takeMid e s).addrCode = s.addrCode := by
  cases e with
  | powerOnReset | pinReset => simp [isReset] at h
  | request code w stn addr =>
    by_cases elsewhere : s.station = .reset ∨ w.dst ≠ portAddress s
    · rw [takeMid, addressed_elsewhere w.dst _ s elsewhere]
      exact ⟨rfl, rfl⟩
    · obtain ⟨running, own⟩ := not_or.mp elsewhere
      have own := not_not.mp own
      rw [takeMid, own, addressed_own _ s running]
      rcases takeWrite_keeps (fun s => (s.station, s.addrCode)) (fun _ _ => rfl) (fun _ _ => rfl)
        requestActions_station code w.rest stn addr s with ⟨-, restart⟩ | same
      · simp [isReset, own, restart] at h
      · exact Prod.mk.inj same
  | responseRead r =>
    exact Prod.mk.inj (addressed_keeps (fun s => (s.station, s.addrCode)) r.dst _ s (by simp))
  | _ => simp [takeMid]

/-- Events that are no resets leave the station's state and the port's address. -/
theorem takeMids_station {es : List MidEvent} {s : State}
    (h : ∀ e ∈ es, isReset (portAddress s) e = false) :
    (takeMids es s).station = s.station ∧ (takeMids es s).addrCode = s.addrCode := by
  unfold takeMids
  induction es generalizing s with
  | nil => simp
  | cons e es ih =>
    obtain ⟨first, others⟩ := List.forall_mem_cons.mp h
    obtain ⟨station, address⟩ := takeMid_station first
    have port : portAddress (takeMid e s) = portAddress s := by simp only [portAddress, address]
    have rest := ih (s := takeMid e s) (by rwa [port])
    exact ⟨rest.1.trans station, rest.2.trans address⟩

theorem marks_eq_setsLatch (kind : LatchKind) (tr : Transition) :
    kind.marks tr.rises = setsLatch kind tr.level := by
  cases kind <;> cases h : tr.level <;> simp [LatchKind.marks, setsLatch, Transition.rises, h]

/-- A delivery is the latch, the record and the patterns in turn (R46 to R48). -/
theorem deliver_eq_deliveredWhole (tr : Transition) (s : State) : deliver tr s = deliveredWhole tr s := by
  have latched : latchStep tr s =
      if setsLatch (s.profile.slots.get tr.slot).kind tr.level = true then
        { s with slots := put s.slots tr.slot { s.slots.get tr.slot with latch := true } }
      else s := by
    rw [latchStep, marks_eq_setsLatch]
    rfl
  have profile : (latchStep tr s).profile = s.profile := by simp
  rw [deliver, patternsTake, journalStep, profile, latched, deliveredWhole]

/-- Where no event is a reset, every transition is delivered whole after the events before it (R49). -/
theorem deliverAll_eq_deliveredInTurn {trs : List Transition} {between : List (List MidEvent)} {u : State}
    (delivers : u.station.delivers = true)
    (h : ∀ es ∈ between, ∀ e ∈ es, isReset (portAddress u) e = false) :
    deliverAll trs between u = deliveredInTurn trs between u := by
  induction trs generalizing between u with
  | nil => rfl
  | cons tr trs ih =>
    have events : ∀ e ∈ between.headD [], isReset (portAddress u) e = false := by
      cases between with
      | nil => simp
      | cons es _ => exact h es (by simp)
    obtain ⟨station, address⟩ := takeMids_station events
    have later : ∀ es ∈ between.tail, ∀ e ∈ es,
        isReset (portAddress (deliver tr (takeMids (between.headD []) u))) e = false := by
      intro es mem
      simp only [portAddress, deliver_keeps, address]
      exact h es (List.mem_of_mem_tail mem)
    have still : (takeMids (between.headD []) u).station.delivers = true := by rwa [station]
    simp only [deliverAll, deliveredInTurn, still, if_true]
    rw [ih (by simpa using still) later, deliver_eq_deliveredWhole, takeMids]

/-! #### Disabled patterns -/

/-- A disabled pattern takes no transition (R92). -/
theorem patternTake_disabled {p : Fin 8} {s : State} (h : (s.profile.patterns.get p).steps = [])
    (tr : Transition) : patternTake p tr s = s := by
  simp [patternTake, h]

theorem foldl_patternTake_idle {l : List (Fin 8)} {s : State} {tr : Transition}
    (h : ∀ p ∈ l, patternTake p tr s = s) : l.foldl (fun s p => patternTake p tr s) s = s := by
  induction l with
  | nil => rfl
  | cons p l ih =>
    obtain ⟨first, others⟩ := List.forall_mem_cons.mp h
    rw [List.foldl_cons, first, ih others]

/-- Where no pattern takes the transition, a delivery ends with its record (R47). -/
theorem deliver_idle {s : State} {tr : Transition}
    (h : ∀ p, patternTake p tr (journalStep tr (latchStep tr s)) = journalStep tr (latchStep tr s)) :
    deliver tr s = journalStep tr (latchStep tr s) :=
  foldl_patternTake_idle fun p _ => h p

/-- With every pattern disabled a delivery ends with its record (R47, R92). -/
theorem deliver_disabled {s : State} (h : ∀ p, (s.profile.patterns.get p).steps = [])
    (tr : Transition) : deliver tr s = journalStep tr (latchStep tr s) :=
  deliver_idle fun p => patternTake_disabled (by simpa using h p) tr

/-- The record of a delivered transition, if its slot's journal enable is on (R47). -/
def State.slotBody (s : State) (tr : Transition) : List RecordBody :=
  if (s.profile.slots.get tr.slot).journal = true then
    [.slot tr.slot tr.level tr.cause tr.stamp]
  else []

theorem journalStep_journal (tr : Transition) (s : State) :
    (journalStep tr s).journal = (s.slotBody tr).foldl Journal.taking s.journal := by
  unfold journalStep State.slotBody
  split
  · rw [generate_journal]
    rfl
  · rfl

theorem deliverEach_disabled (trs : List Transition) {s : State}
    (h : ∀ p, (s.profile.patterns.get p).steps = []) :
    (deliverEach trs s).journal = (trs.flatMap s.slotBody).foldl Journal.taking s.journal
      ∧ (deliverEach trs s).patterns = s.patterns := by
  induction trs generalizing s with
  | nil => exact ⟨rfl, rfl⟩
  | cons tr trs ih =>
    have journal : (deliver tr s).journal = (s.slotBody tr).foldl Journal.taking s.journal := by
      rw [deliver_disabled h, journalStep_journal]
      simp [State.slotBody]
    have patterns : (deliver tr s).patterns = s.patterns := by simp [deliver_disabled h]
    have bodies : (deliver tr s).slotBody = s.slotBody := by
      funext tr'
      simp [State.slotBody]
    obtain ⟨journals, pats⟩ := ih (s := deliver tr s) (by simpa using h)
    rw [deliverEach_cons, journals, pats, journal, patterns, bodies, List.flatMap_cons,
      List.foldl_append]
    exact ⟨rfl, rfl⟩

theorem flatMap_filter_ite {α β : Type} (p q : α → Prop) [DecidablePred p] [DecidablePred q] (f : α → β)
    (l : List α) :
    ((l.filter fun a => decide (p a)).flatMap fun a => if q a then [f a] else []) =
      l.filterMap fun a => if q a ∧ p a then some (f a) else none := by
  induction l with
  | nil => rfl
  | cons a l ih =>
    by_cases hp : p a
    · by_cases hq : q a <;> simp [hp, hq, ih]
    · simp [hp, ih]

/-- Settles O26: the frame is applied whole and then delivered in turn; with no pattern enabled the records
are those of the changed slots. -/
theorem frameRecords : Obligations.FrameRecords := by
  refine ⟨fun s between atCheck station clean no_reset => ⟨s.applied, applied_spec s, ?_⟩,
    fun s atCheck station clean disabled => ?_⟩
  · have port : portAddress s.applied = portAddress s := by simp [portAddress]
    rw [exec_frameEnd_valid atCheck station clean,
      deliverAll_eq_deliveredInTurn (by simpa using Station.delivers_iff.mpr station) (by rwa [port])]
  · intro after bodies
    obtain ⟨journal, patterns⟩ := deliverEach_disabled (s.changedSlots.map s.frameTransition)
      (s := s.applied) (by simpa using disabled)
    refine ⟨_, exec_frameEnd_quiet atCheck station clean, ?_, by rw [patterns]; simp⟩
    have same : (s.changedSlots.map s.frameTransition).flatMap s.applied.slotBody = bodies := by
      rw [List.flatMap_map, State.changedSlots]
      simp only [State.slotBody, applied_keeps, State.frameTransition]
      exact flatMap_filter_ite (fun k => s.frameLevel k ≠ (s.slots.get k).level)
        (fun k => (s.profile.slots.get k).journal = true) _ _
    rw [journal, same]
    simp

end Sys2Proof.Machine

/-! ### The census (R26 to R29) -/

namespace Sys2Proof.Machine

open Sys2Proof

/-- A census frame counted by the line interface and the ownership controller (R14, R26), before it is
learnt. -/
def State.surveyed (s : State) : State := countCensus (countValid (s.checked .free))

/-- Counting a census frame touches only: pins, lif, owner. -/
@[simp] theorem surveyed_keeps (s : State) :
    s.surveyed.station = s.station ∧ s.surveyed.cause = s.cause
      ∧ s.surveyed.stationCode = s.stationCode ∧ s.surveyed.addrCode = s.addrCode
      ∧ s.surveyed.profile = s.profile ∧ s.surveyed.loader = s.loader
      ∧ s.surveyed.slots = s.slots ∧ s.surveyed.chans = s.chans ∧ s.surveyed.soft = s.soft
      ∧ s.surveyed.inputs = s.inputs ∧ s.surveyed.host = s.host
      ∧ s.surveyed.patterns = s.patterns ∧ s.surveyed.conds = s.conds
      ∧ s.surveyed.blink = s.blink ∧ s.surveyed.journal = s.journal ∧ s.surveyed.port = s.port
      ∧ s.surveyed.pins = { s.pins with evl := .free } ∧ s.surveyed.freeIndex = s.freeIndex
      ∧ s.surveyed.pending = s.pending := by
  simp [State.surveyed]

theorem surveyed_lif {s : State} (listen : s.station = .listen) :
    s.surveyed.lif =
      { s.lif with
        line := .gap, gapCount := 0, gapLen := 6
        refresh := false
        announce := s.lif.announce && !s.lif.announceAtStart
        census := s.lif.census && !s.lif.censusAtStart
        voidCount := 0, validCount := s.lif.validCount + 1, stuckTimer := .stopped } := by
  simp [State.surveyed, countValid_lif, Lif.endValid, checked_lif, checkError, Config.shortGap, listen]

theorem surveyed_owner (s : State) :
    s.surveyed.owner =
      { s.owner with
        progress := s.owner.progress + 1
        seen := tab fun k => s.owner.seen.get k || s.lif.presence.get k } := by
  simp [State.surveyed, countCensus, countValid_lif, Lif.endValid, checked_lif]

/-- A valid frame end in LISTEN: the census completes at the second, and the frame is learnt silently
before (R26, R28, R50). -/
theorem exec_frameEnd_census {s : State} (atCheck : s.AtCheck) (listen : s.station = .listen)
    (clean : s.lif.fault = false) (between : List (List MidEvent)) :
    exec (.frameEnd .free between) s =
      .next (discardRecord
        (if 2 ≤ s.owner.progress + 1 then completeCensus s.surveyed else learnFrame s.surveyed)) := by
  have valid : endFrame .free between s = endValid between (s.checked .free) :=
    (endFrame_of_atCheck .free between atCheck).trans (if_pos ⟨rfl, clean⟩)
  have census : endValid between (s.checked .free) = censusFrame (countValid (s.checked .free)) :=
    endValid_listen between (by simpa using listen)
  have progress : s.surveyed.owner.progress = s.owner.progress + 1 := by rw [surveyed_owner]
  refine congrArg Host.Outcome.next ((valid.trans census).trans ?_)
  rw [censusFrame, ← State.surveyed, progress]

theorem discardRecord_lif (s : State) :
    (discardRecord s).lif = { s.lif with presence := allFree, level := allFree } := rfl

theorem ownedSlot_eq_false {s : State} (none : ∀ c, (s.chans.get c).state ≠ .owned) (k : Fin 48) :
    ownedSlot s k = false := by
  rw [Bool.eq_false_iff, ne_eq, ownedSlot_iff]
  exact fun ⟨c, owned, _⟩ => none c owned

/-- A slot that no OWNED channel claims follows the frame (R43). -/
theorem applySlot_foreign (present driven : Bool) (e : SlotEntry) :
    applySlot false present driven e =
      { e with
        own := if present = true then .remote else .unowned
        level := if present = true ∧ driven = true then .asserted else .released } := by
  cases present <;> cases driven <;> rfl

/-- Settles O27: the first census frame is counted and learnt silently. -/
theorem censusFrame_holds : Obligations.CensusFrame := by
  intro s atCheck listen clean first none
  have learnt : exec (.frameEnd .free []) s = .next (discardRecord (learnFrame s.surveyed)) := by
    rw [exec_frameEnd_census atCheck listen clean, first, if_neg (by omega)]
  refine ⟨_, learnt, ?_, ?_, fun k => ?_, ?_⟩
  · rw [discardRecord_lif, learnFrame, State.setSlots_lif, surveyed_lif listen]
  · simp [learnFrame, surveyed_owner, first]
  · have foreign := ownedSlot_eq_false (s := s.surveyed) (by simpa using none) k
    simp [learnFrame, appliedSlots, foreign, applySlot_foreign, surveyed_lif listen]
  · apply State.ext_fields <;> simp [learnFrame]

/-! #### The completing frame -/

/-- The armed record of a pattern whose step 0 is `first` (R94, R96). -/
def State.armedRec (s : State) (first : Step) (r : PatRec) : PatRec :=
  { r with progress := 0, window := (entryTimers s 0 first).1, timer := (entryTimers s 0 first).2 }

theorem entered_armedRec (s : State) (first : Step) (r : PatRec) : Entered s 0 first (s.armedRec first r) := by
  cases first with
  | hold slot w time =>
    by_cases stands : (s.slots.get slot).level = .asserted <;>
      simp [Entered, State.armedRec, entryTimers, stands]
  | _ => simp [Entered, State.armedRec, entryTimers]

/-- The record of pattern `p` once it is armed, if it is enabled (R92, R96). -/
def State.armedPattern (s : State) (p : Fin 8) (r : PatRec) : PatRec :=
  match (s.profile.patterns.get p).steps with
  | [] => r
  | first :: _ => s.armedRec first r

theorem armedPattern_congr {s t : State} (profile : t.profile = s.profile)
    (levels : ∀ k, (t.slots.get k).level = (s.slots.get k).level) (p : Fin 8) (r : PatRec) :
    t.armedPattern p r = s.armedPattern p r := by
  simp only [State.armedPattern, State.armedRec, entryTimers, profile, levels]

theorem armedPattern_twice (s : State) (p : Fin 8) (r : PatRec) :
    s.armedPattern p (s.armedPattern p r) = s.armedPattern p r := by
  unfold State.armedPattern
  split <;> rfl

/-- Arming one pattern of those that are enabled (R96). -/
theorem armOne_pattern (s : State) (p q : Fin 8) :
    ((if (s.profile.patterns.get p).steps.isEmpty then s else enterStep p 0 s).patterns.get q) =
      if p = q then s.armedPattern q (s.patterns.get q) else s.patterns.get q := by
  cases steps : (s.profile.patterns.get p).steps with
  | nil =>
    by_cases e : p = q
    · subst e
      simp [State.armedPattern, steps]
    · simp [e]
  | cons first rest =>
    by_cases e : p = q
    · subst e
      simp [enterStep, State.armedPattern, State.armedRec, steps]
    · simp [enterStep, get_put, e]

theorem armPatterns_pattern (s : State) (q : Fin 8) :
    (armPatterns s).patterns.get q = s.armedPattern q (s.patterns.get q) := by
  have list_armed : ∀ (l : List (Fin 8)) (s : State),
      (l.foldl (fun s p => if (s.profile.patterns.get p).steps.isEmpty then s else enterStep p 0 s)
        s).patterns.get q =
        if q ∈ l then s.armedPattern q (s.patterns.get q) else s.patterns.get q := by
    intro l
    induction l with
    | nil => simp
    | cons p l ih =>
      intro s
      have same : ∀ r, (if (s.profile.patterns.get p).steps.isEmpty then s
          else enterStep p 0 s).armedPattern q r = s.armedPattern q r :=
        armedPattern_congr (by split <;> simp) (by split <;> simp) q
      rw [List.foldl_cons, ih, same, armOne_pattern]
      by_cases e : p = q
      · simp [e, armedPattern_twice]
      · simp [e, Ne.symm e]
  rw [armPatterns, list_armed, if_pos (List.mem_finRange q)]

/-- Seeding touches latches of LEVEL slots alone (R51). -/
theorem seedLatches_slot (s : State) (k : Fin 48) :
    (seedLatches s).slots.get k =
      { s.slots.get k with
        latch := (s.slots.get k).latch
          || decide ((s.profile.slots.get k).kind = .level ∧ (s.slots.get k).level = .asserted) } := by
  simp only [seedLatches, State.setSlots_slots, get_tab]
  split <;> simp [*]

theorem leaveListen_pattern (s : State) (p : Fin 8) :
    (leaveListen s).patterns.get p = s.armedPattern p (s.patterns.get p) := by
  let u := seedLatches
    ((s.setLif { s.lif with census := false }).setOwner { s.owner with waitTimer := .stopped })
  have armed : (leaveListen s).patterns = (armPatterns u).patterns := by
    cases h : s.owner.imageFault <;> simp [leaveListen, u, h, enterObserver, enterActive]
  have levels : ∀ k, (u.slots.get k).level = (s.slots.get k).level := by simp [u, seedLatches_slot]
  have same : u.profile = s.profile ∧ u.patterns = s.patterns := by simp [u]
  rw [armed, armPatterns_pattern, armedPattern_congr same.1 levels, same.2]

/-- The slot is seen owned in either census frame (R26, R28). -/
def State.seenOwned (s : State) (k : Fin 48) : Bool := s.owner.seen.get k || s.lif.presence.get k

/-- The channel wins its slot at the completion of the census (R28). -/
def State.WinsClaim (s : State) (c : Fin 16) : Prop :=
  (s.chans.get c).state = .claiming ∧ s.seenOwned (s.profile.chans.get c).slot = false

/-- The channel finds its slot owned at the completion of the census (R28). -/
def State.LosesClaim (s : State) (c : Fin 16) : Prop :=
  (s.chans.get c).state = .claiming ∧ s.seenOwned (s.profile.chans.get c).slot = true

/-- The channels that find their slots owned, ascending. -/
def State.lostClaims (s : State) : List (Fin 16) :=
  (List.finRange 16).filter fun c =>
    (s.chans.get c).state == .claiming && s.seenOwned (s.profile.chans.get c).slot

/-- A channel once its claim is decided (R28). -/
def State.decidedChannel (s : State) (c : Fin 16) : Channel :=
  if (s.chans.get c).state = .claiming then
    { s.chans.get c with
      state := if s.seenOwned (s.profile.chans.get c).slot then .conflict else .owned }
  else s.chans.get c

theorem mem_lostClaims {s : State} {c : Fin 16} : c ∈ s.lostClaims ↔ s.LosesClaim c := by
  simp [State.lostClaims, State.LosesClaim]

theorem lostClaims_ne_nil {s : State} : s.lostClaims ≠ [] ↔ ∃ c, s.LosesClaim c := by
  simp only [← mem_lostClaims, ne_eq, List.eq_nil_iff_forall_not_mem, not_forall, not_not]

theorem surveyed_seen (s : State) (k : Fin 48) : s.surveyed.owner.seen.get k = s.seenOwned k := by
  simp [surveyed_owner, State.seenOwned]

theorem conflicting_surveyed (s : State) : conflicting s.surveyed = s.lostClaims := by
  simp [conflicting, State.lostClaims, surveyed_seen]

/-- The claims decided and reported (R28). -/
def State.judged (s : State) : State :=
  reportAll (conflictReports (s.lostClaims.map fun c => (s.profile.chans.get c).slot))
    (decideClaims s.surveyed)

/-- The census completed (R28, R29). -/
def State.joined (s : State) : State := discardRecord (leaveListen (learnWithClaims s.judged))

theorem exec_frameEnd_completes {s : State} (atCheck : s.AtCheck) (listen : s.station = .listen)
    (clean : s.lif.fault = false) (second : s.owner.progress = 1) (between : List (List MidEvent)) :
    exec (.frameEnd .free between) s = .next s.joined := by
  rw [exec_frameEnd_census atCheck listen clean, second, if_pos (by omega), completeCensus,
    conflicting_surveyed, reportConflicts_eq]
  simp only [State.joined, State.judged, decideClaims_keeps, surveyed_keeps]

/-- Deciding the claims touches only: pins, lif, owner, chans, conds, journal. -/
@[simp] theorem judged_keeps (s : State) :
    s.judged.station = s.station ∧ s.judged.cause = s.cause
      ∧ s.judged.stationCode = s.stationCode ∧ s.judged.addrCode = s.addrCode
      ∧ s.judged.profile = s.profile ∧ s.judged.loader = s.loader
      ∧ s.judged.lif = s.surveyed.lif ∧ s.judged.owner = s.surveyed.owner
      ∧ s.judged.slots = s.slots ∧ s.judged.soft = s.soft
      ∧ s.judged.inputs = s.inputs ∧ s.judged.host = s.host
      ∧ s.judged.patterns = s.patterns ∧ s.judged.blink = s.blink ∧ s.judged.port = s.port
      ∧ s.judged.pins = { s.pins with evl := .free } ∧ s.judged.freeIndex = s.freeIndex
      ∧ s.judged.pending = s.pending := by
  simp [State.judged]

theorem judged_chan (s : State) (c : Fin 16) :
    s.judged.chans.get c =
      s.conditionsMove (if s.lostClaims = [] then [] else [.asserted]) c (s.decidedChannel c) := by
  have decided : (decideClaims s.surveyed).chans.get c = s.decidedChannel c := by
    simp [decideClaims_chan, State.decidedChannel, surveyed_seen]
  rw [State.judged]
  split
  · next none_lost => simp [none_lost, conflictReports, decided]
  · next lost =>
    rw [reportAll_chan (.inl ⟨condConflict, by simpa using lost⟩), decided]
    exact conditionsMove_congr (by simp) (by simp) _ c _

theorem judged_state (s : State) (c : Fin 16) :
    (s.judged.chans.get c).state = (s.decidedChannel c).state := by
  rw [judged_chan]
  simp

theorem judged_owned {s : State} (none : ∀ c, (s.chans.get c).state ≠ .owned) (c : Fin 16) :
    (s.judged.chans.get c).state = .owned ↔ s.WinsClaim c := by
  rw [judged_state, State.decidedChannel, State.WinsClaim]
  cases s.seenOwned (s.profile.chans.get c).slot <;> split <;> simp [*]

theorem judged_ownedSlot {s : State} (none : ∀ c, (s.chans.get c).state ≠ .owned) (k : Fin 48) :
    ownedSlot s.judged k = true ↔ ∃ c, s.WinsClaim c ∧ (s.profile.chans.get c).slot = k := by
  simp only [ownedSlot_iff, judged_owned none, judged_keeps]

theorem joined_slot {s : State} (listen : s.station = .listen) (k : Fin 48) :
    s.joined.slots.get k =
      if ownedSlot s.judged k = true then
        { s.slots.get k with own := .localOwned, level := .released }
      else
        { s.slots.get k with
          own := if s.lif.presence.get k = true then .remote else .unowned
          level := s.frameLevel k
          latch := (s.slots.get k).latch
            || decide ((s.profile.slots.get k).kind = .level ∧ s.frameLevel k = .asserted) } := by
  have learnt : (learnWithClaims s.judged).slots.get k =
      if ownedSlot s.judged k = true then
        { s.slots.get k with own := .localOwned, level := .released }
      else
        { s.slots.get k with
          own := if s.lif.presence.get k = true then .remote else .unowned, level := s.frameLevel k } := by
    simp [learnWithClaims, applySlot_foreign, surveyed_lif listen, State.frameLevel]
  simp only [State.joined, discardRecord_keeps, leaveListen_slots, seedLatches_slot, learnt]
  split <;> simp

theorem joined_chan (s : State) (c : Fin 16) :
    s.joined.chans.get c = (s.judged.chans.get c).startOwned := by
  simp [State.joined, leaveListen_chan]

theorem joined_owner (s : State) :
    s.joined.owner = { s.surveyed.owner with waitTimer := .stopped } := by
  simp [State.joined, leaveListen_owner]

theorem joined_lif {s : State} (listen : s.station = .listen) :
    s.joined.lif =
      { s.lif with
        line := .gap, gapCount := 0, gapLen := 6, presence := allFree, level := allFree
        refresh := false, census := false
        announce := !s.owner.imageFault
          && (s.lif.announce && !s.lif.announceAtStart || anyOwned s.judged)
        refreshTimer :=
          if s.owner.imageFault = true ∨ s.profile.refresh = 0 then .stopped
          else .running (10 * s.profile.refresh)
        voidCount := 0, validCount := s.lif.validCount + 1, stuckTimer := .stopped } := by
  have owned : anyOwned (startOwnedChannels (learnWithClaims s.judged)) = anyOwned s.judged := by
    simp [anyOwned, startOwnedChannels, startOwned_state]
  rw [State.joined, discardRecord_lif, leaveListen_lif, owned]
  simp [surveyed_owner, surveyed_lif listen]

/-- The census completed touches only: station, pins, lif, owner, slots, chans, patterns, conds,
journal. -/
@[simp] theorem joined_keeps (s : State) :
    s.joined.cause = s.cause ∧ s.joined.stationCode = s.stationCode
      ∧ s.joined.addrCode = s.addrCode ∧ s.joined.profile = s.profile
      ∧ s.joined.loader = s.loader ∧ s.joined.soft = s.soft ∧ s.joined.inputs = s.inputs
      ∧ s.joined.host = s.host ∧ s.joined.blink = s.blink ∧ s.joined.port = s.port
      ∧ s.joined.pins = { s.pins with evl := .free } ∧ s.joined.freeIndex = s.freeIndex
      ∧ s.joined.pending = s.pending := by
  simp [State.joined]

theorem joined_station (s : State) :
    s.joined.station = if s.owner.imageFault = true then .observer else .active := by
  simp only [State.joined, discardRecord_keeps, leaveListen_station, learnWithClaims_keeps,
    judged_keeps, Owner.joins, surveyed_owner]

theorem joined_pattern (s : State) (p : Fin 8) :
    s.joined.patterns.get p = s.joined.armedPattern p (s.patterns.get p) := by
  have levels : ∀ k, (s.joined.slots.get k).level = ((learnWithClaims s.judged).slots.get k).level := by
    simp [State.joined, leaveListen_slots, seedLatches_slot]
  have patterns : s.joined.patterns = (leaveListen (learnWithClaims s.judged)).patterns := by
    simp [State.joined]
  rw [patterns, leaveListen_pattern, armedPattern_congr (by simp) levels]
  simp

theorem joined_conds (s : State) (d : Fin 7) :
    s.joined.conds.get d = true ↔
      s.conds.get d = true ∨ (d = condConflict ∧ ∃ c, s.LosesClaim c)
        ∨ d = condJournalLost ∧ 32 - s.journal.records.length < s.lostClaims.length := by
  have conds : s.joined.conds = s.judged.conds := by simp [State.joined]
  rw [conds, State.judged, reportAll_conds, ← lostClaims_ne_nil]
  simp [overflows]

theorem joined_journal (s : State) :
    s.joined.journal =
      (s.lostClaims.map fun c => RecordBody.claim (s.profile.chans.get c).slot .conflict).foldl
        Journal.taking s.journal := by
  have journal : s.joined.journal = s.judged.journal := by simp [State.joined]
  rw [journal, State.judged, reportAll_journal, bodies_conflictReports, List.map_map]
  simp
  rfl

/-! What becomes of a channel. -/

theorem startOwned_of_owned {ch : Channel} (h : ch.state = .owned) :
    ch.startOwned =
      { ch with
        sent := .released, inFlight := false
        pending := if ch.level = .asserted then [.asserted] else [] } := if_pos h

theorem startOwned_of_not_owned {ch : Channel} (h : ch.state ≠ .owned) : ch.startOwned = ch := if_neg h

theorem startOwned_level (ch : Channel) : ch.startOwned.level = ch.level := by
  unfold Channel.startOwned
  split <;> rfl

theorem joined_state (s : State) (c : Fin 16) :
    (s.joined.chans.get c).state = (s.decidedChannel c).state := by
  rw [joined_chan, startOwned_state, judged_state]

theorem decidedChannel_keeps (s : State) (c : Fin 16) :
    (s.decidedChannel c).level = (s.chans.get c).level
      ∧ (s.decidedChannel c).sent = (s.chans.get c).sent
      ∧ (s.decidedChannel c).pending = (s.chans.get c).pending
      ∧ (s.decidedChannel c).inFlight = (s.chans.get c).inFlight := by
  unfold State.decidedChannel
  split <;> simp

theorem joined_level (s : State) (c : Fin 16) :
    (s.joined.chans.get c).level =
      (s.conditionsMove (if s.lostClaims = [] then [] else [.asserted]) c (s.decidedChannel c)).level := by
  rw [joined_chan, startOwned_level, judged_chan]

/-- The first condition latch brings a CONDITIONS channel to ASSERTED through its invert flag (R74). -/
theorem conditionsMove_level_of_idle {s : State} {c : Fin 16}
    (source : (s.profile.chans.get c).source = .conditions) (idle : anyCond s = false) (ch : Channel) :
    (s.conditionsMove [.asserted] c ch).level = Level.asserted.through (s.profile.chans.get c).invert := by
  rw [State.conditionsMove, if_pos source, sourceLevel_conditions, idle]
  simp only [Bool.false_eq_true, if_false, Channel.following, reduceCtorEq, Channel.take]
  split
  · symm; assumption
  · rfl

/-- A channel that wins no claim is not OWNED, and keeps its list. -/
theorem joined_of_not_wins {s : State} (none : ∀ c, (s.chans.get c).state ≠ .owned) {c : Fin 16}
    (h : ¬ s.WinsClaim c) :
    (s.joined.chans.get c).sent = (s.chans.get c).sent
      ∧ (s.joined.chans.get c).pending = (s.chans.get c).pending
      ∧ (s.joined.chans.get c).inFlight = (s.chans.get c).inFlight := by
  have other : (s.judged.chans.get c).state ≠ .owned := fun e => h ((judged_owned none c).mp e)
  obtain ⟨-, sent, pending, inFlight⟩ := decidedChannel_keeps s c
  rw [joined_chan, startOwned_of_not_owned other, judged_chan,
    conditionsMove_pending_of_not_owned (by rwa [judged_state] at other)]
  simp [sent, pending, inFlight]

/-- A channel that wins its claim has its initial list (R68). -/
theorem joined_of_wins {s : State} (none : ∀ c, (s.chans.get c).state ≠ .owned) {c : Fin 16}
    (h : s.WinsClaim c) :
    (s.joined.chans.get c).state = .owned ∧ (s.joined.chans.get c).sent = .released
      ∧ (s.joined.chans.get c).inFlight = false
      ∧ (s.joined.chans.get c).pending =
          if (s.joined.chans.get c).level = .asserted then [.asserted] else [] := by
  have owned := (judged_owned none c).mpr h
  rw [joined_chan, startOwned_of_owned owned]
  exact ⟨owned, rfl, rfl, rfl⟩

theorem joined_level_of_calm {s : State} (c : Fin 16)
    (h : (∀ d, ¬ s.LosesClaim d) ∨ ∃ d, s.conds.get d = true) :
    (s.joined.chans.get c).level = (s.chans.get c).level := by
  rw [joined_level, ← (decidedChannel_keeps s c).1]
  by_cases lost : s.lostClaims = []
  · simp [lost]
  · have latched : anyCond s = true := by
      rcases h with none_lost | latched
      · exact absurd (lostClaims_ne_nil.mp lost) (not_exists.mpr none_lost)
      · exact (anyCond_iff s).mpr latched
    rw [if_neg lost, conditionsMove_of_anyCond latched]

theorem joined_level_of_alarm {s : State} {c : Fin 16}
    (source : (s.profile.chans.get c).source = .conditions) (lost : ∃ d, s.LosesClaim d)
    (idle : ∀ d, s.conds.get d = false) :
    (s.joined.chans.get c).level = Level.asserted.through (s.profile.chans.get c).invert := by
  have none_set : anyCond s = false := by
    rw [Bool.eq_false_iff, ne_eq, anyCond_iff]
    simp [idle]
  rw [joined_level, if_neg (lostClaims_ne_nil.mpr lost), conditionsMove_level_of_idle source none_set]

theorem anyOwned_judged {s : State} (none : ∀ c, (s.chans.get c).state ≠ .owned) :
    anyOwned s.judged = true ↔ ∃ c, s.WinsClaim c := by
  simp [anyOwned, judged_owned none]

/-- Settles O28: the completion decides, reports, learns, seeds, arms and enters, each in its own fields. -/
theorem censusCompletion : Obligations.CensusCompletion := by
  intro s atCheck listen clean second none seen wins loses lost
  refine ⟨_, exec_frameEnd_completes atCheck listen clean second [], joined_station s,
    fun c win => joined_of_wins none win, fun c lose => ?_, fun c not_win not_lose => ?_,
    fun c not_win => joined_of_not_wins none not_win, fun c other => ?_,
    fun c source some_lost idle => joined_level_of_alarm source some_lost idle,
    fun c calm => joined_level_of_calm c calm, fun d ne ne' => ?_, ?_, ?_, joined_journal s,
    fun k won => ?_, fun k not_won => ?_, fun p first rest steps => ?_, fun p steps => ?_, ?_, ?_⟩
  · rw [joined_state, State.decidedChannel, if_pos lose.1]
    exact if_pos lose.2
  · have undecided : (s.chans.get c).state ≠ .claiming := by
      intro claiming
      cases e : seen (s.profile.chans.get c).slot with
      | false => exact not_win ⟨claiming, e⟩
      | true => exact not_lose ⟨claiming, e⟩
    rw [joined_state, State.decidedChannel, if_neg undecided]
  · rw [joined_level, conditionsMove_other other, (decidedChannel_keeps s c).1]
  · rw [Bool.eq_iff_iff, joined_conds]
    simp [ne, ne']
  · rw [joined_conds]
    simp [condJournalLost, condConflict]
    rfl
  · rw [joined_conds]
    simp [condJournalLost, condConflict]
    rfl
  · rw [joined_slot listen, if_pos ((judged_ownedSlot none k).mpr won)]
    exact ⟨rfl, rfl, rfl⟩
  · rw [joined_slot listen, if_neg (fun e => not_won ((judged_ownedSlot none k).mp e))]
    refine ⟨rfl, ?_, rfl⟩
    simp [State.frameLevel]
  · have armed : s.joined.patterns.get p = s.joined.armedRec first (s.patterns.get p) := by
      rw [joined_pattern]
      simp [State.armedPattern, steps]
    rw [armed]
    exact ⟨entered_armedRec _ _ _, rfl, rfl⟩
  · rw [joined_pattern]
    simp [State.armedPattern, steps]
  · rw [joined_owner, surveyed_owner, second]
  · have lif := joined_lif listen
    have owner : s.joined.owner.progress = 2 ∧ s.joined.owner.waitTimer = .stopped := by
      simp [joined_owner, surveyed_owner, second]
    refine ⟨?_, owner.1, owner.2, by rw [lif], by rw [lif], by rw [lif], by rw [lif], by rw [lif],
      by rw [lif], fun passed => ⟨?_, ?_⟩, fun failed => ?_, ?_⟩
    · rw [lif]
    · rw [lif]
      simp only [passed, Bool.not_false, Bool.true_and, Bool.or_eq_true, Bool.and_eq_true,
        Bool.not_eq_true', anyOwned_judged none]
      rfl
    · rw [lif]
      simp [passed]
    · rw [lif]
      simp [failed]
    · apply State.ext_fields <;> simp

end Sys2Proof.Machine

/-! ### The end of LOADING (R158) -/

namespace Sys2Proof.Machine

open Sys2Proof

/-! #### Channels at the level of their sources (R60) -/

/-- Every channel stands at its source level through its invert flag (R60). -/
def State.AtSources (s : State) : Prop := ∀ c, (s.chans.get c).level = effectiveLevel s c

theorem take_level (ch : Channel) (v : Level) : (ch.take v).level = v := by
  unfold Channel.take
  split
  · symm; assumption
  · rfl

/-- A channel that stands at its source's old level stands at its last one after following it. -/
theorem following_level {ch : Channel} {invert : Bool} {old : Level} (h : ch.level = old.through invert)
    (vs : List Level) : (ch.following invert old vs).level = (lastLevel old vs).through invert := by
  induction vs generalizing ch old with
  | nil => exact h
  | cons v vs ih =>
    rw [Channel.following_cons, lastLevel_cons]
    refine ih ?_
    split
    · rw [h, ← ‹v = old›]
    · exact take_level ch _

namespace State.AtSources

variable {s t : State}

theorem of_same (h : s.AtSources) (profile : t.profile = s.profile) (chans : t.chans = s.chans)
    (levels : ∀ src, sourceLevel t src = sourceLevel s src) : t.AtSources := by
  intro c
  rw [effectiveLevel, chans, levels, profile]
  exact h c

/-- One source moves through some levels, its channels with it, and no other source moves. -/
theorem of_source (h : s.AtSources) {src : Source} {levels : List Level} (profile : t.profile = s.profile)
    (chan : ∀ c, t.chans.get c =
      if (s.profile.chans.get c).source = src then
        (s.chans.get c).following (s.profile.chans.get c).invert (sourceLevel s src) levels
      else s.chans.get c)
    (moved : sourceLevel t src = lastLevel (sourceLevel s src) levels)
    (still : ∀ other, other ≠ src → sourceLevel t other = sourceLevel s other) : t.AtSources := by
  intro c
  rw [effectiveLevel, profile, chan]
  split
  · next named =>
    have level := h c
    rw [effectiveLevel, named] at level
    rw [following_level level, named, moved]
  · next other =>
    rw [still _ other]
    exact h c

theorem setInputOutput (h : s.AtSources) (i : Fin 12) (v : Level) : (setInputOutput i v s).AtSources := by
  refine h.of_source (src := .input i) (levels := [v]) (by simp) (setInputOutput_chan i v s) ?_ ?_
  · simp [sourceLevel, setInputOutput_input]
  · intro other ne
    cases other with
    | input j =>
      have ne : j ≠ i := fun e => ne (congrArg Source.input e)
      simp [sourceLevel, setInputOutput_input, ne]
    | _ => simp [sourceLevel, anyCond]

theorem setCond (h : s.AtSources) (d : Fin 7) : (setCond d s).AtSources := by
  refine h.of_source (src := .conditions) (levels := [.asserted]) (by simp) (setCond_chan d s) ?_ ?_
  · rw [sourceLevel_conditions, if_pos (anyCond_of_put (setCond_conds d s))]
    simp
  · intro other ne
    cases other with
    | conditions => exact absurd rfl ne
    | _ => simp [sourceLevel]

theorem generate (h : s.AtSources) (body : RecordBody) : (generate body s).AtSources := by
  by_cases room : s.journal.records.length < 32
  · rw [generate_stores body s room]
    exact h.of_same rfl rfl fun src => by cases src <;> rfl
  · rw [generate_loses body s room]
    have counted : (s.setJournal
        { s.journal with seq := s.journal.seq + 1, lost := s.journal.lost + 1 }).AtSources :=
      h.of_same rfl rfl fun src => by cases src <;> rfl
    exact counted.setCond _

/-- An input's record may change so long as its output stands. -/
theorem setInputRec (h : s.AtSources) {i : Fin 12} {r : InputRec}
    (output : r.output = (s.inputs.get i).output) : (setInputRec i r s).AtSources := by
  refine h.of_same rfl rfl fun src => ?_
  cases src with
  | input j =>
    by_cases e : i = j
    · subst e
      simp [sourceLevel, Machine.setInputRec, output]
    · simp [sourceLevel, Machine.setInputRec, get_put, e]
  | _ => rfl

theorem modeActivation (h : s.AtSources) (i : Fin 12) : (modeActivation i s).AtSources := by
  unfold Machine.modeActivation
  split
  · exact h.setInputOutput i _
  · exact h.setInputOutput i _
  · exact (h.setInputOutput i _).setInputOutput i _

end State.AtSources

/-! #### First samples (R78) -/

theorem opposite_eq_ite (v : Level) :
    v.opposite = if v = .asserted then .released else .asserted := by
  cases v <;> rfl

/-- An activation moves an input's output as its mode says, and no other record (R81 to R83). -/
theorem modeActivation_input (i j : Fin 12) (s : State) :
    (modeActivation i s).inputs.get j =
      if j = i then
        { s.inputs.get i with
          output := lastLevel (s.inputs.get i).output
            (modeLevels (s.profile.inputs.get i).mode .asserted (s.inputs.get i).output) }
      else s.inputs.get j := by
  unfold modeActivation
  cases mode : (s.profile.inputs.get i).mode <;> by_cases e : j = i <;>
    simp [setInputOutput_input, modeLevels, e, opposite_eq_ite]

/-- An input's record after its first sample (R78): an active input starts its filter, or passes a filter
of no time at once. -/
def firstRecord (cfg : InputCfg) (raw : RawSample) (output : Level) : InputRec where
  raw := raw
  timer := if raw = .active ∧ cfg.filterMs ≠ 0 then .running cfg.filterMs else .stopped
  filtered := if raw = .active ∧ cfg.filterMs = 0 then .asserted else .released
  output :=
    if raw = .active ∧ cfg.filterMs = 0 then lastLevel output (modeLevels cfg.mode .asserted output)
    else output

/-- What input `i`'s record becomes at a first sample in state `s`. -/
def State.firstRec (s : State) (i : Fin 12) : InputRec :=
  firstRecord (s.profile.inputs.get i) (pinSample s i) (s.inputs.get i).output

theorem setInputRec_twice (i : Fin 12) (r r' : InputRec) (s : State) :
    setInputRec i r (setInputRec i r' s) = setInputRec i r s := by
  have put_twice : put (put s.inputs i r') i r = put s.inputs i r := by
    refine tab_ext fun j => ?_
    by_cases e : i = j <;> simp [get_put, e]
  simp only [setInputRec, State.setInputs_inputs, put_twice]
  rfl

theorem pinSample_active_or (s : State) (i : Fin 12) :
    pinSample s i = .active ∨ pinSample s i = .inactive := by
  unfold pinSample rawOf
  split <;> simp

/-- A first sample sets the input's record, and is an activation where it passes the filter at once. -/
theorem firstSample_eq (i : Fin 12) (s : State) :
    firstSample i s =
      if pinSample s i = .active ∧ (s.profile.inputs.get i).filterMs = 0 then
        modeActivation i <| setInputRec i
          { raw := .active, timer := .stopped, filtered := .asserted
            output := (s.inputs.get i).output } s
      else setInputRec i (s.firstRec i) s := by
  have profile (r : InputRec) : (setInputRec i r s).profile = s.profile := rfl
  have record (r : InputRec) : (setInputRec i r s).inputs.get i = r := by simp [setInputRec]
  rw [firstSample, takeSample, record, profile]
  rcases pinSample_active_or s i with active | inactive
  · by_cases zero : (s.profile.inputs.get i).filterMs = 0
    · simp [active, zero, RawSample.level, filterTakes, record, setInputRec_twice]
    · simp [active, zero, RawSample.level, State.firstRec, firstRecord, setInputRec_twice]
  · simp [inactive, RawSample.level, State.firstRec, firstRecord, setInputRec_twice]

theorem firstSample_input (i j : Fin 12) (s : State) :
    (firstSample i s).inputs.get j = if j = i then s.firstRec i else s.inputs.get j := by
  rw [firstSample_eq]
  split
  · next passes =>
    rw [modeActivation_input]
    by_cases e : j = i
    · simp [e, setInputRec, State.firstRec, firstRecord, passes]
    · simp [e, setInputRec, get_put, Ne.symm e]
  · by_cases e : j = i
    · simp [e, setInputRec]
    · simp [e, setInputRec, get_put, Ne.symm e]

theorem State.AtSources.firstSample {s : State} (h : s.AtSources) (i : Fin 12) :
    (firstSample i s).AtSources := by
  rw [firstSample_eq]
  split
  · have recorded : (Machine.setInputRec i
        { raw := .active, timer := .stopped, filtered := .asserted
          output := (s.inputs.get i).output } s).AtSources := h.setInputRec rfl
    exact recorded.modeActivation i
  · next waits =>
    have output : (s.firstRec i).output = (s.inputs.get i).output := if_neg waits
    exact h.setInputRec output

theorem State.AtSources.firstSamples {s : State} (h : s.AtSources) : (firstSamples s).AtSources := by
  unfold Machine.firstSamples
  induction List.finRange 12 generalizing s with
  | nil => exact h
  | cons i l ih =>
    refine ih ?_
    dsimp only
    split
    exacts [h.firstSample i, h]

/-- The first samples set the record of each input that is read, and no other (R78). -/
theorem firstSamples_input (s : State) (i : Fin 12) :
    (firstSamples s).inputs.get i = if inputRead s i = true then s.firstRec i else s.inputs.get i := by
  have sample_list : ∀ (l : List (Fin 12)), l.Nodup → ∀ s : State,
      (l.foldl (fun s i => if inputRead s i then firstSample i s else s) s).inputs.get i =
        if i ∈ l ∧ inputRead s i = true then s.firstRec i else s.inputs.get i := by
    intro l
    induction l with
    | nil => simp
    | cons j l ih =>
      intro nodup s
      obtain ⟨fresh, nodup⟩ := List.nodup_cons.mp nodup
      rw [List.foldl_cons]
      by_cases sampled : inputRead s j = true
      · have read : inputRead (firstSample j s) i = inputRead s i := by simp [inputRead, hostPower]
        rw [if_pos sampled, ih nodup, read, firstSample_input]
        by_cases e : i = j
        · subst e
          simp [fresh, sampled]
        · have sample : pinSample (firstSample j s) i = pinSample s i := by simp [pinSample]
          have record : (firstSample j s).firstRec i = s.firstRec i := by
            simp only [State.firstRec, sample, firstSample_keeps, firstSample_input, if_neg e]
          simp [e, record]
      · rw [if_neg sampled, ih nodup]
        by_cases e : i = j
        · subst e
          simp [fresh, sampled]
        · simp [e]
  rw [firstSamples, sample_list _ (List.nodup_finRange 12)]
  simp

/-! #### The end of LOADING -/

/-- A channel that owns nothing keeps its list, whatever its source does (R64). -/
theorem MovesOnly.pending {moved : Source → Prop} {s t : State} (h : MovesOnly moved s t) {c : Fin 16}
    (other : (s.chans.get c).state ≠ .owned) : (t.chans.get c).pending = (s.chans.get c).pending := by
  obtain ⟨levels, chan, -⟩ := h.2 c
  rw [chan]
  clear chan
  generalize s.chans.get c = ch at other
  induction levels generalizing ch with
  | nil => rfl
  | cons v levels ih =>
    rw [List.foldl_cons, ih _ (by simpa using other), take_pending_of_not_owned other]

/-- The blocks' first values touch only: station, profile, lif, owner, conds, chans. -/
@[simp] theorem leavingLoading_keeps (p : Profile) (status : ImageStatus) (s : State) :
    (s.leavingLoading p status).station = .listen ∧ (s.leavingLoading p status).profile = p
      ∧ (s.leavingLoading p status).cause = s.cause ∧ (s.leavingLoading p status).inputs = s.inputs
      ∧ (s.leavingLoading p status).host = s.host ∧ (s.leavingLoading p status).pins = s.pins
      ∧ (s.leavingLoading p status).journal = s.journal := by
  unfold State.leavingLoading
  dsimp only
  split <;> simp

theorem leavingLoading_conds (p : Profile) (status : ImageStatus) (s : State) (c : Fin 7) :
    (s.leavingLoading p status).conds.get c =
      (s.conds.get c || decide (c = condImageFault) && status == .fault) := by
  unfold State.leavingLoading
  dsimp only
  split
  · next fault =>
    subst fault
    by_cases e : condImageFault = c
    · subst e
      simp [setCond_conds]
    · simp [setCond_conds, get_put, e, Ne.symm e]
  · next passed =>
    have ok : (status == .fault) = false := by simpa using passed
    simp [ok]

/-- In the fallback profile no channel is fed by the condition latches, so IMAGE_FAULT moves none. -/
theorem leavingLoading_chans {p : Profile} {status : ImageStatus} (s : State)
    (fallback : status = .fault → p = fallbackProfile) (c : Fin 16) :
    (s.leavingLoading p status).chans.get c = s.chans.get c := by
  unfold State.leavingLoading
  dsimp only
  split
  · next fault =>
    have quiet : ((fallbackProfile).chans.get c).source ≠ .conditions := by simp [fallbackProfile]
    rw [setCond_chan, conditionsMove_other (by simpa [fallback fault] using quiet)]
    simp
  · rfl

/-- The channels as they start, CLAIMING or UNUSED at their source levels (R24, R60). -/
def State.starting (p : Profile) (status : ImageStatus) (s : State) : State :=
  startChannels (s.leavingLoading p status)

@[simp] theorem starting_keeps (p : Profile) (status : ImageStatus) (s : State) :
    (s.starting p status).station = .listen ∧ (s.starting p status).profile = p
      ∧ (s.starting p status).cause = s.cause ∧ (s.starting p status).inputs = s.inputs
      ∧ (s.starting p status).host = s.host ∧ (s.starting p status).pins = s.pins
      ∧ (s.starting p status).journal = s.journal
      ∧ (s.starting p status).conds = (s.leavingLoading p status).conds := by
  simp [State.starting]

theorem starting_chan {p : Profile} {status : ImageStatus} (s : State)
    (fallback : status = .fault → p = fallbackProfile) (c : Fin 16) :
    (s.starting p status).chans.get c =
      { s.chans.get c with
        state := if (p.chans.get c).enable = true then .claiming else .unused
        level := effectiveLevel (s.leavingLoading p status) c } := by
  simp [State.starting, startChannels, leavingLoading_chans s fallback]

theorem starting_atSources (p : Profile) (status : ImageStatus) (s : State) :
    (s.starting p status).AtSources := by
  intro c
  simp only [State.starting, startChannels, State.setChans_chans, get_tab, effectiveLevel,
    State.setChans_profile]
  congr 1

theorem endLoading_eq_starting (p : Profile) (status : ImageStatus) (s : State) :
    endLoading p status s =
      generate (.start s.cause status)
        ((firstSamples (s.starting p status)).setBlink { running := true, phase := 0 }) :=
  endLoading_eq p status s

theorem endLoading_moves (p : Profile) (status : ImageStatus) (s : State) :
    MovesOnly Source.any (s.starting p status) (endLoading p status s) := by
  rw [endLoading_eq_starting]
  have sampled : MovesOnly Source.any (s.starting p status) (firstSamples (s.starting p status)) :=
    (firstSamples_moves _).mono fun _ _ => trivial
  have started : MovesOnly Source.any
      ((firstSamples (s.starting p status)).setBlink { running := true, phase := 0 }) _ :=
    (generate_moves (.start s.cause status) _).mono fun _ _ => trivial
  exact sampled.trans (started.from_eq rfl rfl)

theorem endLoading_atSources (p : Profile) (status : ImageStatus) (s : State) :
    (endLoading p status s).AtSources := by
  rw [endLoading_eq_starting]
  have sampled := (starting_atSources p status s).firstSamples
  have blinking :
      ((firstSamples (s.starting p status)).setBlink { running := true, phase := 0 }).AtSources :=
    sampled.of_same rfl rfl fun src => by cases src <;> rfl
  exact blinking.generate _

theorem endLoading_blink (p : Profile) (status : ImageStatus) (s : State) :
    (endLoading p status s).blink = { running := true, phase := 0 } := by
  simp [endLoading_eq_starting]

theorem endLoading_input (p : Profile) (status : ImageStatus) (s : State) (i : Fin 12) :
    (endLoading p status s).inputs.get i =
      if (p.inputs.get i).domain = .standby ∨ hostPower s ≠ .off then
        (s.setProfile p).firstRec i
      else s.inputs.get i := by
  have read : inputRead (s.starting p status) i = true
      ↔ (p.inputs.get i).domain = .standby ∨ hostPower s ≠ .off := by
    simp [inputRead, hostPower, Station.onLine]
  have record : (s.starting p status).firstRec i = (s.setProfile p).firstRec i := by
    have sample : pinSample (s.starting p status) i = pinSample (s.setProfile p) i := by
      simp [pinSample]
    simp only [State.firstRec, sample, starting_keeps, State.setProfile_profile,
      State.setProfile_inputs]
  have inputs : (endLoading p status s).inputs = (firstSamples (s.starting p status)).inputs := by
    simp [endLoading_eq_starting]
  rw [inputs, firstSamples_input, record]
  simp only [read, starting_keeps]

/-- From an empty journal the START record stands alone, and no record is lost (R137). -/
theorem endLoading_first_record {s : State}
    (empty : s.journal = { records := [], seq := 0, lost := 0, handed := 0 }) (p : Profile)
    (status : ImageStatus) :
    (endLoading p status s).conds = (s.leavingLoading p status).conds
      ∧ (endLoading p status s).journal =
          { records := [{ seq := 0, body := .start s.cause status, lost := none }]
            seq := 1, lost := 0, handed := 0 } := by
  rw [endLoading_eq_starting]
  constructor
  · simp [generate_conds, empty]
  · simp [generate_journal, Journal.taking, empty]

/-- Settles O12: an image byte that leaves LOADING ends it, and each block has its first values. -/
theorem loadingEnds : Obligations.LoadingEnds := by
  intro s t b loading run left
  have t_eq : t = takeImageByte b s := (Host.Outcome.next.inj run).symm
  rcases takeImageByte_cases b s with ⟨l, stays⟩ | ⟨-, l, p, ends, verdict⟩
  · exact absurd (by rw [t_eq, stays]; exact loading) left
  · have t_eq : t = endLoading p l.status (s.setLoader l) := t_eq.trans ends
    clear ends run left
    subst t_eq
    have fallback : l.status = .fault → p = fallbackProfile := by
      rcases verdict with ⟨-, e⟩ | ⟨ok, -⟩
      · exact fun _ => e
      · intro fault
        rw [ok] at fault
        cases fault
    have moves := endLoading_moves p l.status (s.setLoader l)
    refine ⟨endLoading_station _ _ _, endLoading_lif _ _ _, ?_, fun c => ?_,
      endLoading_atSources _ _ _, fun c => ?_, fun i => ?_, fun clear empty => ?_,
      endLoading_blink _ _ _, ?_⟩
    · rw [endLoading_owner, endLoading_profile, (endLoading_keeps _ _ _).2.2.2.1]
      rfl
    · rw [endLoading_state, endLoading_profile]
    · obtain ⟨-, sent, inFlight⟩ := moves.keeps c
      have start := starting_chan (s.setLoader l) fallback c
      have other : (((s.setLoader l).starting p l.status).chans.get c).state ≠ .owned := by
        rw [start]
        dsimp only
        split <;> simp
      rw [sent, inFlight, moves.pending other, start]
      exact ⟨rfl, rfl, rfl⟩
    · rw [endLoading_input, endLoading_profile]
      rfl
    · obtain ⟨conds, journal⟩ := endLoading_first_record (s := s.setLoader l) empty p l.status
      rw [conds, journal]
      refine ⟨fun c => ?_, ?_⟩
      · rw [leavingLoading_conds]
        simp [clear]
      · simp
    · apply State.ext_fields <;> simp

end Sys2Proof.Machine

/-! ### Events between two deliveries (R49) -/

namespace Sys2Proof.Machine

open Sys2Proof

theorem deliverAll_cons (tr : Transition) (trs : List Transition) (between : List (List MidEvent))
    (s : State) :
    deliverAll (tr :: trs) between s =
      if (takeMids (between.headD []) s).station.delivers = true then
        deliverAll trs between.tail (deliver tr (takeMids (between.headD []) s))
      else takeMids (between.headD []) s := rfl

theorem mem_changedSlots {s : State} {k : Fin 48} :
    k ∈ s.changedSlots ↔ s.frameLevel k ≠ (s.slots.get k).level := by
  simp [State.changedSlots]

theorem changedSlots_ascending (s : State) : s.changedSlots.Pairwise (· < ·) :=
  (List.pairwise_lt_finRange 48).filter _

/-- The changed slots after the first are those above it. -/
theorem mem_later_changedSlots {s : State} {k : Fin 48} {later : List (Fin 48)}
    (h : s.changedSlots = k :: later) (i : Fin 48) : i ∈ later ↔ k < i ∧ i ∈ s.changedSlots := by
  have ascending := changedSlots_ascending s
  rw [h] at ascending ⊢
  constructor
  · exact fun mem => ⟨List.rel_of_pairwise_cons ascending mem, List.mem_cons_of_mem k mem⟩
  · rintro ⟨above, mem⟩
    rcases List.mem_cons.mp mem with rfl | mem
    · exact absurd above (lt_irrefl _)
    · exact mem

/-! #### A reset before the first delivery -/

/-- A reset taken before a delivery ends the frame's delivery, and leaves the reset values (R22, R49,
R148). -/
theorem deliverAll_pinReset {trs : List Transition} (some_tr : trs ≠ []) {s : State}
    (running : s.station ≠ .reset) :
    deliverAll trs [[.pinReset]] s =
      { State.reset with
        cause := .pin, pins := { s.pins with resetN := .low }
        freeIndex := s.freeIndex, pending := s.pending } := by
  have reset : resetPinFalls s =
      { State.reset with
        cause := .pin, pins := { s.pins with resetN := .low }
        freeIndex := s.freeIndex, pending := s.pending } := by
    rw [resetPinFalls, if_neg running]
    rfl
  cases trs with
  | nil => exact absurd rfl some_tr
  | cons tr trs =>
    have event : takeMids ([[MidEvent.pinReset]].headD []) s = resetPinFalls s := rfl
    have silent : (resetPinFalls s).station.delivers = false := rfl
    rw [deliverAll_cons, event, silent, reset]
    rfl

/-! #### An acknowledgement after the first delivery -/

theorem latchStep_level (tr : Transition) (s : State) (k : Fin 48) :
    ((latchStep tr s).slots.get k).level = (s.slots.get k).level := by
  rw [latchStep_slot]

/-- A delivery sets its own slot's latch by its kind, and no other (R52). -/
theorem deliver_slot (tr : Transition) (s : State) (i : Fin 48) :
    (deliver tr s).slots.get i =
      { s.slots.get i with
        latch := (s.slots.get i).latch
          || decide (tr.slot = i) && setsLatch (s.profile.slots.get i).kind tr.level } := by
  rw [deliver_slots, latchStep_slot, marks_eq_setsLatch]
  by_cases e : tr.slot = i
  · rw [e]
  · simp [e]

/-- The latches after several deliveries. -/
theorem deliverEach_slot (trs : List Transition) (s : State) (i : Fin 48) :
    (deliverEach trs s).slots.get i =
      { s.slots.get i with
        latch := (s.slots.get i).latch
          || trs.any fun tr => decide (tr.slot = i) && setsLatch (s.profile.slots.get i).kind tr.level } := by
  induction trs generalizing s with
  | nil => simp [deliverEach]
  | cons tr trs ih =>
    rw [deliverEach_cons, ih, deliver_slot]
    simp [Bool.or_assoc]

theorem rangeAccepted_of {first count : Byte} {size most : Nat} (inside : first.toNat < size)
    (some_slot : 1 ≤ count.toNat) (few : count.toNat ≤ most) (fits : first.toNat + count.toNat ≤ size) :
    rangeAccepted size most first count = true := by
  simp [rangeAccepted, inside, some_slot, few, fits]

/-- An accepted ACK_SLOTS sent to the port clears the latches of its range but the held ones (R54, R163). -/
theorem takeMid_ackSlots {s : State} (online : s.station.delivers = true) {tag first count : Byte}
    (accepted : rangeAccepted 48 48 first count = true) (stn : BitVec 4) (addr : BitVec 2) :
    (takeMid (.request 0x10#8 ⟨portAddress s, [tag, first, count]⟩ stn addr) s).slots =
        (ackSlotRange first.toNat count.toNat s).slots
      ∧ (takeMid (.request 0x10#8 ⟨portAddress s, [tag, first, count]⟩ stn addr) s).profile =
        s.profile := by
  have running : s.station ≠ .reset := by rintro e; simp [e, Station.delivers] at online
  have loaded : s.station ≠ .loading := by rintro e; simp [e, Station.delivers] at online
  have judged : judgeRequest (some .ackSlots) [tag, first, count] = .ok := by
    simp [judgeRequest, Config.requestMax, operandCount, operandsAccepted, accepted]
  have named : RequestCode.ofByte 0x10#8 = some .ackSlots := by decide
  rw [takeMid, addressed_own _ s running, takeWrite, named]
  simp [requestAckSlots, takeRequest, loaded, judged, actAckSlots, answer, ackSlotRange, slotHeld,
    ackWrite]

/-- Where the frame and the acknowledgement leave a latch: `marked` if a delivery sets it, `early` if it is
set when the acknowledgement comes. -/
theorem ackSlotRange_latch (first count : Nat) (s : State) (i : Fin 48) :
    (((ackSlotRange first count s).slots.get i).latch = true ↔
      (s.slots.get i).latch = true
        ∧ (first ≤ i.val ∧ i.val < first + count →
            (s.profile.slots.get i).kind = .level ∧ (s.slots.get i).level = .asserted)) := by
  have entry : (ackSlotRange first count s).slots.get i =
      if (inRange first count i && !slotHeld s i) = true then { s.slots.get i with latch := false }
      else s.slots.get i := by
    simp [ackSlotRange]
  have cleared : (inRange first count i && !slotHeld s i) = true ↔
      (first ≤ i.val ∧ i.val < first + count) ∧
        ¬(((s.profile.slots.get i).kind = .level ∧ (s.slots.get i).level = .asserted)
          ∧ (s.slots.get i).latch = true) := by
    simp only [inRange, slotHeld, Bool.and_eq_true, decide_eq_true_eq, Bool.not_eq_true',
      ← Bool.not_eq_true, beq_iff_eq]
  by_cases gone : (inRange first count i && !slotHeld s i) = true
  · obtain ⟨covered, free⟩ := cleared.mp gone
    rw [entry, if_pos gone]
    exact ⟨fun set => by simp at set, fun ⟨latched, held⟩ => absurd ⟨held covered, latched⟩ free⟩
  · rw [entry, if_neg gone]
    refine ⟨fun latched => ⟨latched, fun covered => ?_⟩, And.left⟩
    by_contra free
    exact gone (cleared.mpr ⟨covered, fun held => free held.1⟩)

/-! #### A hold timer before the first delivery -/

/-- Entering step 0 arms the pattern's record and no other (R94). -/
theorem resetProgress_pattern {p : Fin 8} {first : Step} {rest : List Step} {s : State}
    (steps : (s.profile.patterns.get p).steps = first :: rest) (q : Fin 8) :
    (resetProgress p s).patterns.get q =
      if q = p then s.armedRec first (s.patterns.get p) else s.patterns.get q := by
  by_cases e : q = p
  · simp [resetProgress, enterStep, steps, State.armedRec, e]
  · simp [resetProgress, enterStep, steps, get_put, e, Ne.symm e]

theorem setPatternOutput_other {p q : Fin 8} (h : q ≠ p) (v : Level) (s : State) :
    (setPatternOutput p v s).patterns.get q = s.patterns.get q := by
  rw [setPatternOutput_pattern, if_neg h]

theorem performAction_other {p q : Fin 8} (h : q ≠ p) (s : State) :
    (performAction p s).patterns.get q = s.patterns.get q := by
  unfold performAction
  split <;> simp [setPatternOutput_other h]

theorem enterStep_other {p q : Fin 8} (h : q ≠ p) (n : Nat) (s : State) :
    (enterStep p n s).patterns.get q = s.patterns.get q := by
  simp [enterStep, get_put, Ne.symm h]

theorem advance_other {p q : Fin 8} (h : q ≠ p) (stamp : Option (BitVec 16)) (s : State) :
    (advance p stamp s).patterns.get q = s.patterns.get q := by
  unfold advance
  split
  · exact enterStep_other h _ s
  · simp [complete, resetProgress, enterStep_other h, performAction_other h, setMatchLatch, get_put,
      Ne.symm h]

theorem retry_other {p q : Fin 8} (h : q ≠ p) (tr : Transition) (s : State) :
    (retry p tr s).patterns.get q = s.patterns.get q := by
  unfold retry
  (repeat' split) <;> simp [enterStep_other h, startHold, get_put, Ne.symm h]

/-- A transition that pattern `p` takes leaves the other patterns' records (R97). -/
theorem patternTake_other {p q : Fin 8} (h : q ≠ p) (tr : Transition) (s : State) :
    (patternTake p tr s).patterns.get q = s.patterns.get q := by
  unfold patternTake
  dsimp only
  split
  · rfl
  · split
    · rfl
    · exact advance_other h _ s
    · simp [startHold, get_put, Ne.symm h]
    · simp [restartQuiet, get_put, Ne.symm h]
    · rw [retry_other h, resetProgress, enterStep_other h]

/-- What a delivery leaves of pattern `p`'s record, if the pattern itself leaves it (R97). -/
theorem deliver_pattern {p : Fin 8} {tr : Transition} {s : State}
    (still : ∀ u : State, u.profile = s.profile
      → (∀ k, (u.slots.get k).level = (s.slots.get k).level)
      → u.patterns.get p = s.patterns.get p
      → (patternTake p tr u).patterns.get p = u.patterns.get p) :
    (deliver tr s).patterns.get p = s.patterns.get p := by
  have take_list : ∀ (l : List (Fin 8)) (u : State), u.profile = s.profile
      → (∀ k, (u.slots.get k).level = (s.slots.get k).level)
      → u.patterns.get p = s.patterns.get p
      → (l.foldl (fun u q => patternTake q tr u) u).patterns.get p = s.patterns.get p := by
    intro l
    induction l with
    | nil => exact fun u _ _ record => record
    | cons q l ih =>
      intro u profile levels record
      refine ih (patternTake q tr u) (by simpa using profile) (by simpa using levels) ?_
      by_cases e : q = p
      · rw [e, still u profile levels record, record]
      · rw [patternTake_other (Ne.symm e), record]
  exact take_list _ _ (by simp) (by simp [latchStep_level]) (by simp)

/-- A transition that fits nothing resets and retries a STRICT pattern that watches its slot, and is passed
over otherwise (R99, R100). -/
theorem patternTake_of_mismatch {p : Fin 8} {tr : Transition} {s : State} {st : Step}
    (step : (s.profile.patterns.get p).steps[(s.patterns.get p).progress]? = some st)
    (judged : ∀ strict watched,
      judge st (s.patterns.get p).holding strict watched tr = mismatch strict watched) :
    patternTake p tr s =
      if ((s.profile.patterns.get p).strict && (s.profile.patterns.get p).watches tr.slot) = true then
        retry p tr (resetProgress p s)
      else s := by
  simp only [patternTake, step, judged]
  cases (s.profile.patterns.get p).strict <;>
    cases (s.profile.patterns.get p).watches tr.slot <;> rfl

section HoldPattern

variable {s : State} {p : Fin 8} {k : Fin 48} {w time : Nat}

/-- A one-step HOLD pattern whose timers are stopped takes no transition but a rise of its slot (R101,
R102). -/
theorem patternTake_of_waiting {tr : Transition}
    (steps : (s.profile.patterns.get p).steps = [.hold k w time])
    (record : s.patterns.get p =
      { s.patterns.get p with progress := 0, window := .stopped, timer := .stopped })
    (fallen : (s.slots.get k).level ≠ .asserted) (no_rise : tr.risesOn k = false) :
    (patternTake p tr s).patterns.get p = s.patterns.get p := by
  have step : (s.profile.patterns.get p).steps[(s.patterns.get p).progress]? = some (.hold k w time) := by
    rw [record, steps]
    rfl
  have holding : (s.patterns.get p).holding = false := by rw [record]; rfl
  have rearmed : (resetProgress p s).patterns.get p = s.patterns.get p := by
    rw [resetProgress_pattern steps, if_pos rfl, State.armedRec]
    simp only [entryTimers, if_neg fallen, if_true]
    exact record.symm
  have retried : retry p tr (resetProgress p s) = resetProgress p s := by
    simp [retry, steps, no_rise]
  rw [patternTake_of_mismatch step (by simp [judge, no_rise, holding]), retried]
  split
  exacts [rearmed, rfl]

/-- A one-step HOLD pattern passes over the transitions of other slots (R100). -/
theorem patternTake_of_unwatched {tr : Transition}
    (steps : (s.profile.patterns.get p).steps = [.hold k w time])
    (progress : (s.patterns.get p).progress = 0) (other : tr.slot ≠ k) :
    patternTake p tr s = s := by
  have step : (s.profile.patterns.get p).steps[(s.patterns.get p).progress]? = some (.hold k w time) := by
    rw [progress, steps]
    rfl
  have unwatched : (s.profile.patterns.get p).watches tr.slot = false := by
    simp [PatCfg.watches, steps, Step.watches, Ne.symm other]
  rw [patternTake_of_mismatch step
    (by simp [judge, Transition.risesOn, Transition.fallsOn, other]), unwatched]
  simp

/-- The hold timer of a slot that has fallen resets its pattern (R105). -/
theorem holdExpires_of_fallen (delivers : s.station.delivers = true)
    (steps : (s.profile.patterns.get p).steps = [.hold k w time])
    (progress : (s.patterns.get p).progress = 0) {ms : Nat} (timer : (s.patterns.get p).timer = .hold ms)
    (fallen : (s.slots.get k).level ≠ .asserted) : holdExpires p s = resetProgress p s := by
  simp [holdExpires, delivers, timer, holdSlot, steps, progress, fallen]

/-- The hold timer of a slot that stands ASSERTED completes a one-step pattern (R105, R108). -/
theorem holdExpires_of_standing (delivers : s.station.delivers = true)
    (steps : (s.profile.patterns.get p).steps = [.hold k w time])
    (progress : (s.patterns.get p).progress = 0) {ms : Nat} (timer : (s.patterns.get p).timer = .hold ms)
    (stands : (s.slots.get k).level = .asserted) : holdExpires p s = complete p none s := by
  simp [holdExpires, delivers, timer, holdSlot, steps, progress, stands, advance]

theorem performAction_latch (p : Fin 8) (s : State) :
    ((performAction p s).patterns.get p).latch = (s.patterns.get p).latch := by
  unfold performAction
  split <;> simp [setPatternOutput_pattern]

/-- A completion leaves the match latch set and the pattern armed anew, with its record taken by the journal
(R108, R109). -/
theorem complete_of_standing (steps : (s.profile.patterns.get p).steps = [.hold k w time])
    (stands : (s.slots.get k).level = .asserted) (stamp : Option (BitVec 16)) :
    ((complete p stamp s).patterns.get p).latch = true
      ∧ ((complete p stamp s).patterns.get p).progress = 0
      ∧ ((complete p stamp s).patterns.get p).timer = .hold (10 * time)
      ∧ (complete p stamp s).journal =
        (if (s.profile.patterns.get p).journal = true then [RecordBody.matched p stamp] else []).foldl
          Journal.taking s.journal := by
  let u := performAction p (matchRecord p stamp (setMatchLatch p s))
  have steps_u : (u.profile.patterns.get p).steps = [.hold k w time] := by
    simpa [u, setMatchLatch] using steps
  have stands_u : (u.slots.get k).level = .asserted := by simpa [u, setMatchLatch] using stands
  have record : (complete p stamp s).patterns.get p = u.armedRec (.hold k w time) (u.patterns.get p) := by
    rw [complete, resetProgress_pattern steps_u, if_pos rfl]
  have latch : (u.patterns.get p).latch = true := by
    simp [u, performAction_latch, setMatchLatch]
  have journal : (complete p stamp s).journal = (matchRecord p stamp (setMatchLatch p s)).journal := by
    simp [complete]
  refine ⟨by rw [record]; exact latch, by rw [record]; rfl, ?_, ?_⟩
  · rw [record]
    simp [State.armedRec, entryTimers, stands_u]
  · rw [journal, matchRecord]
    split <;> simp_all [generate_journal, setMatchLatch]

end HoldPattern

/-! #### The frame end with such events -/

theorem applied_delivers {s : State} (station : s.station = .active ∨ s.station = .observer) :
    s.applied.station.delivers = true := by
  simpa using Station.delivers_iff.mpr station

/-- A hold timer that expires before the only delivery. -/
theorem exec_frameEnd_hold {s : State} {j : Fin 48} (atCheck : s.AtCheck)
    (station : s.station = .active ∨ s.station = .observer) (clean : s.lif.fault = false)
    (changed : s.changedSlots = [j]) (p : Fin 8) :
    exec (.frameEnd .free [[.holdTimerExpiry p]]) s =
      .next (deliver (s.frameTransition j) (holdExpires p s.applied)) := by
  have delivers : (takeMids [.holdTimerExpiry p] s.applied).station.delivers = true := by
    rw [takeMids, List.foldl_cons, List.foldl_nil, takeMid, (holdExpires_keeps p s.applied).1]
    exact applied_delivers station
  rw [exec_frameEnd_valid atCheck station clean, changed, List.map_cons, List.map_nil, deliverAll_cons,
    List.headD_cons, if_pos delivers]
  rfl

/-- An event taken after the first delivery and before the second. -/
theorem exec_frameEnd_second {s : State} {k : Fin 48} {later : List (Fin 48)} (atCheck : s.AtCheck)
    (station : s.station = .active ∨ s.station = .observer) (clean : s.lif.fault = false)
    (changed : s.changedSlots = k :: later) (some_later : later ≠ []) {e : MidEvent}
    (still : (takeMid e (deliver (s.frameTransition k) s.applied)).station = s.station) :
    exec (.frameEnd .free [[], [e]]) s =
      .next (deliverEach (later.map s.frameTransition)
        (takeMid e (deliver (s.frameTransition k) s.applied))) := by
  have delivers : (takeMid e (deliver (s.frameTransition k) s.applied)).station.delivers = true := by
    rw [still]
    exact Station.delivers_iff.mpr station
  cases later with
  | nil => exact absurd rfl some_later
  | cons j later =>
    have second : takeMids ([[], [e]].tail.headD []) (deliver (s.frameTransition k) s.applied) =
        takeMid e (deliver (s.frameTransition k) s.applied) := rfl
    have first : takeMids ([[], [e]].headD []) s.applied = s.applied := rfl
    rw [exec_frameEnd_valid atCheck station clean, changed, List.map_cons, List.map_cons, deliverAll_cons,
      first, if_pos (applied_delivers station), deliverAll_cons, second, if_pos delivers, deliverEach_cons]
    rw [← deliverAll_quiet _ (by simpa using delivers)]
    rfl

theorem applied_timer {s : State} {p : Fin 8} {n : Nat} {h : HoldQuiet}
    (progress : (s.patterns.get p).progress = n) (timer : (s.patterns.get p).timer = h) :
    (s.applied.patterns.get p).progress = n ∧ (s.applied.patterns.get p).timer = h := by
  simp [progress, timer]

/-- A reset before the first delivery of a frame in which a slot rises (R22, R49, R148). -/
theorem exec_frameEnd_pinReset {s : State} {k : Fin 48} (atCheck : s.AtCheck)
    (station : s.station = .active ∨ s.station = .observer) (clean : s.lif.fault = false)
    (changed : k ∈ s.changedSlots) :
    exec (.frameEnd .free [[.pinReset]]) s =
      .next
        { State.reset with
          cause := .pin, pins := { s.pins with evl := .free, resetN := .low }
          freeIndex := s.freeIndex, pending := s.pending } := by
  have some_tr : s.changedSlots.map s.frameTransition ≠ [] := by
    simpa using List.ne_nil_of_mem changed
  have running : s.applied.station ≠ .reset := by
    rw [(applied_keeps s).1]
    rcases station with e | e <;> simp [e]
  rw [exec_frameEnd_valid atCheck station clean, deliverAll_pinReset some_tr running]
  simp only [applied_keeps]

/-- The slot's latch when an event after the first delivery, of slot `k`, finds it (R52, R55). -/
theorem delivered_latch (s : State) (k i : Fin 48) :
    ((deliver (s.frameTransition k) s.applied).slots.get i).latch = true ↔
      (s.slots.get i).latch = true
        ∨ i = k ∧ setsLatch (s.profile.slots.get i).kind (s.frameLevel i) = true := by
  rw [deliver_slot, applied_slot]
  by_cases e : k = i
  · simp [State.frameTransition, e]
  · simp [State.frameTransition, e, Ne.symm e]

theorem delivered_level (s : State) (k i : Fin 48) :
    ((deliver (s.frameTransition k) s.applied).slots.get i).level = s.frameLevel i := by
  rw [deliver_slot, applied_slot]

/-- One of the transitions delivered is the slot's and sets its latch. -/
theorem any_marks (s : State) (slots : List (Fin 48)) (kind : LatchKind) (i : Fin 48) :
    ((slots.map s.frameTransition).any fun tr => decide (tr.slot = i) && setsLatch kind tr.level) = true ↔
      i ∈ slots ∧ setsLatch kind (s.frameLevel i) = true := by
  simp only [List.any_map, List.any_eq_true, Function.comp_apply, State.frameTransition,
    Bool.and_eq_true]
  constructor
  · rintro ⟨k, mem, slot, marked⟩
    have slot : k = i := of_decide_eq_true slot
    subst slot
    exact ⟨mem, marked⟩
  · rintro ⟨mem, marked⟩
    exact ⟨i, mem, decide_eq_true rfl, marked⟩

/-- Settles O4: an event between deliveries is its command, and the three cases follow from the state that it
finds. -/
theorem midEventsActAsCommands : Obligations.MidEventsActAsCommands := by
  refine ⟨exec_midCommand, ?_, ?_, ?_, ?_⟩
  · intro s k atCheck station clean present driven released
    refine exec_frameEnd_pinReset (k := k) atCheck station clean (mem_changedSlots.mpr ?_)
    simp [State.frameLevel, present, driven, released]
  · intro s k tag first count stn addr atCheck station clean head several inside some_slot few fits
    obtain ⟨later, changed⟩ : ∃ later, s.changedSlots = k :: later := by
      cases e : s.changedSlots with
      | nil => simp [e] at head
      | cons k' later => exact ⟨later, by simpa [e] using head⟩
    have some_later : later ≠ [] := by
      rintro rfl
      simp [changed] at several
    let d := deliver (s.frameTransition k) s.applied
    have port : portAddress s = portAddress d := by simp [d, portAddress]
    have online : d.station.delivers = true := by simpa [d] using applied_delivers station
    have still := takeMid_station (s := d)
      (e := .request 0x10#8 ⟨portAddress d, [tag, first, count]⟩ stn addr) (by
        have named : RequestCode.ofByte 0x10#8 = some .ackSlots := by decide
        simp [isReset, named])
    obtain ⟨slots, profile⟩ := takeMid_ackSlots online (tag := tag)
      (rangeAccepted_of inside some_slot few fits) stn addr
    rw [port, exec_frameEnd_second atCheck station clean changed some_later
      (still.1.trans (by simp [d]))]
    refine ⟨_, rfl, fun i => ?_⟩
    have kinds : d.profile = s.profile := by simp [d]
    simp only [deliverEach_slot, Bool.or_eq_true, any_marks, slots, profile, ackSlotRange_latch,
      mem_later_changedSlots changed, kinds, delivered_latch, delivered_level, d, and_assoc]
  · intro s p k w time ms atCheck station clean changed fallen steps progress timer
    obtain ⟨progress, timer⟩ := applied_timer progress timer
    have steps_a : (s.applied.profile.patterns.get p).steps = [.hold k w time] := by simpa using steps
    have fallen_a : (s.applied.slots.get k).level ≠ .asserted := by rw [applied_slot]; simp [fallen]
    have record : (resetProgress p s.applied).patterns.get p =
        { s.patterns.get p with progress := 0, window := .stopped, timer := .stopped } := by
      rw [resetProgress_pattern steps_a, if_pos rfl, State.armedRec]
      simp [entryTimers, fallen_a]
    refine ⟨_, exec_frameEnd_hold atCheck station clean changed p, ?_⟩
    rw [holdExpires_of_fallen (applied_delivers station) steps_a progress timer fallen_a,
      deliver_pattern, record]
    intro u profile levels same
    refine patternTake_of_waiting (k := k) (w := w) (time := time) ?_ ?_ ?_ ?_
    · rw [profile]
      simpa using steps
    · rw [same, record]
    · rw [levels]
      simpa using fallen_a
    · simp [Transition.risesOn, Transition.rises, State.frameTransition, fallen]
  · intro s p j k w time ms atCheck station clean changed stands other steps progress timer disabled tr
      matched slot
    obtain ⟨progress, timer⟩ := applied_timer progress timer
    have steps_a : (s.applied.profile.patterns.get p).steps = [.hold k w time] := by simpa using steps
    have stands_a : (s.applied.slots.get k).level = .asserted := by rw [applied_slot]; exact stands
    obtain ⟨latch, armed, hold, journal⟩ := complete_of_standing steps_a stands_a none
    have idle : deliver tr (complete p none s.applied) =
        journalStep tr (latchStep tr (complete p none s.applied)) := by
      refine deliver_idle fun q => ?_
      by_cases e : q = p
      · subst e
        exact patternTake_of_unwatched (k := k) (w := w) (time := time) (by simpa using steps)
          (by simpa using armed) (Ne.symm other)
      · exact patternTake_disabled (by simpa using disabled q e) tr
    refine ⟨_, exec_frameEnd_hold atCheck station clean changed p, ?_⟩
    rw [holdExpires_of_standing (applied_delivers station) steps_a progress timer stands_a, idle]
    refine ⟨?_, by simpa using latch, by simpa using hold⟩
    rw [journalStep_journal, List.foldl_append]
    simp [State.slotBody, journal, matched, slot, tr, State.frameTransition]

end Sys2Proof.Machine

/-! ### A valid frame end at the slot table (R36, R43, R45, R52)

Deliveries set latches of the slot table and no condition latch but JOURNAL_LOST, so ownership, levels and
OWNER_LOST stand as the applied frame leaves them. -/

namespace Sys2Proof.Machine

open Sys2Proof

/-! #### The condition latches that a delivery leaves -/

/-- A record sets no condition latch but JOURNAL_LOST (R141). -/
theorem generate_conds_other {d : Fin 7} (h : d ≠ condJournalLost) (body : RecordBody) (s : State) :
    (generate body s).conds.get d = s.conds.get d := by
  rw [generate_conds]
  split
  · rfl
  · exact get_put_other _ _ h.symm

theorem journalStep_conds_other {d : Fin 7} (h : d ≠ condJournalLost) (tr : Transition) (s : State) :
    (journalStep tr s).conds.get d = s.conds.get d := by
  unfold journalStep
  split
  · exact generate_conds_other h _ s
  · rfl

theorem matchRecord_conds_other {d : Fin 7} (h : d ≠ condJournalLost) (p : Fin 8)
    (stamp : Option (BitVec 16)) (s : State) :
    (matchRecord p stamp s).conds.get d = s.conds.get d := by
  unfold matchRecord
  split
  · exact generate_conds_other h _ s
  · rfl

theorem advance_conds_other {d : Fin 7} (h : d ≠ condJournalLost) (p : Fin 8)
    (stamp : Option (BitVec 16)) (s : State) : (advance p stamp s).conds.get d = s.conds.get d := by
  unfold advance
  split
  · simp
  · simp [complete, matchRecord_conds_other h]

/-- A pattern sets no condition latch but by its MATCH record (R97, R109). -/
theorem patternTake_conds_other {d : Fin 7} (h : d ≠ condJournalLost) (p : Fin 8) (tr : Transition)
    (s : State) : (patternTake p tr s).conds.get d = s.conds.get d := by
  unfold patternTake
  dsimp only
  split
  · rfl
  · split
    · rfl
    · exact advance_conds_other h p _ s
    all_goals simp

theorem patternsTake_conds_other {d : Fin 7} (h : d ≠ condJournalLost) (tr : Transition) (s : State) :
    (patternsTake tr s).conds.get d = s.conds.get d := by
  unfold patternsTake
  induction List.finRange 8 generalizing s with
  | nil => rfl
  | cons p l ih => rw [List.foldl_cons, ih, patternTake_conds_other h]

/-- A delivery sets no condition latch but JOURNAL_LOST (R46, R141). -/
theorem deliver_conds_other {d : Fin 7} (h : d ≠ condJournalLost) (tr : Transition) (s : State) :
    (deliver tr s).conds.get d = s.conds.get d := by
  rw [deliver, patternsTake_conds_other h, journalStep_conds_other h]
  simp

theorem deliverEach_conds_other {d : Fin 7} (h : d ≠ condJournalLost) (trs : List Transition)
    (s : State) : (deliverEach trs s).conds.get d = s.conds.get d := by
  induction trs generalizing s with
  | nil => rfl
  | cons tr trs ih => rw [deliverEach_cons, ih, deliver_conds_other h]

/-! #### One slot after the frame -/

/-- The station right after a valid frame end with no event between its deliveries. -/
def State.taken (s : State) : State := deliverEach (s.changedSlots.map s.frameTransition) s.applied

theorem exec_frameEnd_taken {s : State} (atCheck : s.AtCheck)
    (station : s.station = .active ∨ s.station = .observer) (clean : s.lif.fault = false) :
    exec (.frameEnd .free []) s = .next s.taken :=
  exec_frameEnd_quiet atCheck station clean

theorem taken_level (s : State) (k : Fin 48) : (s.taken.slots.get k).level = s.frameLevel k := by
  rw [State.taken, deliverEach_slot, applied_slot]

theorem taken_own (s : State) (k : Fin 48) :
    (s.taken.slots.get k).own =
      if s.lif.presence.get k = false then .unowned
      else if ∃ c, (s.chans.get c).state = .owned ∧ (s.profile.chans.get c).slot = k then .localOwned
      else .remote := by
  rw [State.taken, deliverEach_slot, applied_slot]

/-- A latch is set where the frame changed its slot's level in a direction that its kind marks (R52). -/
theorem taken_latch (s : State) (k : Fin 48) :
    (s.taken.slots.get k).latch = true ↔
      (s.slots.get k).latch = true
        ∨ s.frameLevel k ≠ (s.slots.get k).level
          ∧ setsLatch (s.profile.slots.get k).kind (s.frameLevel k) = true := by
  rw [State.taken, deliverEach_slot, applied_slot]
  simp only [applied_keeps, Bool.or_eq_true, any_marks, mem_changedSlots]

/-- OWNER_LOST is set where a REMOTE slot loses its owner, and no delivery sets it (R36). -/
theorem taken_ownerLost (s : State) :
    s.taken.conds.get condOwnerLost = true ↔
      s.conds.get condOwnerLost = true
        ∨ ∃ k, (s.slots.get k).own = .remote ∧ s.lif.presence.get k = false := by
  have other : condOwnerLost ≠ condJournalLost := by decide
  rw [State.taken, deliverEach_conds_other other, applied_conds]
  simp [State.losses]

/-- Settles O24: each slot as the applied frame has it, its latch by the delivery of its own
transition. -/
theorem validEndSlots : Obligations.ValidEndSlots := by
  intro s atCheck station clean
  refine ⟨_, exec_frameEnd_taken atCheck station clean, fun k driven => ⟨?_, ?_⟩,
    fun k free => ⟨?_, ?_⟩, fun k => ?_, taken_ownerLost s⟩
  · simp only [taken_own, driven, Bool.true_eq_false, if_false]
  · simp [taken_level, State.frameLevel, driven]
  · rw [taken_own, if_pos free]
  · simp [taken_level, State.frameLevel, free]
  · rw [taken_latch, taken_level]
    cases (s.profile.slots.get k).kind <;> simp [setsLatch]

end Sys2Proof.Machine

/-! ### The laws after reset -/

namespace Sys2Proof.Machine

open Sys2Proof

/-! #### One entry of each table after reset (R148) -/

@[simp] theorem reset_slot (k : Fin 48) :
    State.reset.slots.get k = { own := .unowned, level := .released, latch := false } := get_tab _ k

@[simp] theorem reset_chan (c : Fin 16) :
    State.reset.chans.get c =
      { state := .unused, level := .released, sent := .released, pending := [], inFlight := false } :=
  get_tab _ c

@[simp] theorem reset_pattern (p : Fin 8) :
    State.reset.patterns.get p =
      { progress := 0, window := .stopped, timer := .stopped, latch := false, output := .released } :=
  get_tab _ p

/-- The profile that stands after reset enables no pattern (R157, log 1). -/
theorem reset_pattern_disabled (p : Fin 8) : (State.reset.profile.patterns.get p).steps = [] := by
  simp [State.reset, fallbackProfile]

theorem reset_silent : State.reset.station.delivers = false := rfl

theorem reset_offLine : State.reset.station.onLine = false := rfl

/-! #### The laws, block by block -/

/-- No channel is OWNED and every list is empty (R63). -/
theorem reset_pendingLaw : State.reset.PendingLaw := by
  refine ⟨fun c => ?_, fun _ c => by simp⟩
  rw [reset_chan]
  exact ⟨.inl rfl, fun _ => ⟨rfl, rfl⟩, fun owned => by simp at owned, fun flight => by simp at flight⟩

/-- The journal is empty, and no hand-over is outstanding (R140, R144). -/
theorem reset_journalLaw : State.reset.JournalLaw :=
  ⟨by decide, .nil, nofun, nofun, by decide, by decide, by decide⟩

/-- Every pattern is disabled and at rest (R92, R95). -/
theorem reset_patternLaw : State.reset.PatternLaw := by
  refine ⟨fun p => ?_, fun _ p => by simp⟩
  have no_step : currentStep State.reset p = none := by simp [currentStep, reset_pattern_disabled]
  simp [PatternLawful, no_step]

/-- All latches are CLEAR and all outputs RELEASED (R91, R111). -/
theorem reset_matchLaw : State.reset.MatchLaw :=
  ⟨fun p _ => by simp, fun p _ => by simp, fun _ p => by simp⟩

/-- All slots are RELEASED and all latches CLEAR (R43, R53). -/
theorem reset_slotLaw : State.reset.SlotLaw :=
  ⟨fun k _ => by simp, fun delivers => absurd delivers (by simp [reset_silent]), fun _ k => by simp⟩

/-- Settles O53: each law by the reset values of its own block; off the line no channel need stand at its
source. -/
theorem resetLawful : Obligations.ResetLawful :=
  ⟨reset_pendingLaw, fun onLine => absurd onLine (by simp [reset_offLine]), reset_journalLaw,
    reset_patternLaw, reset_matchLaw, reset_slotLaw,
    (ownershipLaw_iff _).mpr (.reset rfl rfl rfl), (lineLaw_iff _).mpr (.default _)⟩

end Sys2Proof.Machine

/-! ### The law of the slot table (R43, R50, R51, R53, R54, R56)

Between two deliveries of one frame the table stands in the frame's levels while some latches are not set
yet, so the law is shown with the transitions still to be delivered beside it: a LEVEL slot that is ASSERTED
has its latch SET, or its rise is one of them. -/

namespace Sys2Proof.Machine

open Sys2Proof

/-- The law of the slot table while the transitions `due` are still to be delivered (R43, R50, R53). -/
structure SlotsOk (due : List Transition) (s : State) : Prop where
  unowned : ∀ k, (s.slots.get k).own = .unowned → (s.slots.get k).level = .released
  held : s.station.delivers = true → ∀ k, (s.profile.slots.get k).kind = .level →
    (s.slots.get k).level = .asserted →
      (s.slots.get k).latch = true ∨ ∃ tr ∈ due, tr.slot = k ∧ tr.level = .asserted
  clear : s.station.delivers = false → ∀ k, (s.slots.get k).latch = false

theorem slotLaw_iff (s : State) : s.SlotLaw ↔ SlotsOk [] s := by
  have none (p : Prop) (k : Fin 48) :
      (p ∨ ∃ tr ∈ ([] : List Transition), tr.slot = k ∧ tr.level = .asserted) ↔ p := by simp
  exact ⟨fun ⟨unowned, held, clear⟩ => ⟨unowned, by simpa only [none] using held, clear⟩,
    fun ⟨unowned, held, clear⟩ => ⟨unowned, by simpa only [none] using held, clear⟩⟩

/-- What the law reads. -/
def tableView (s : State) : Station × Profile × Vector SlotEntry 48 := (s.station, s.profile, s.slots)

theorem tableView_eq {s t : State} : tableView t = tableView s ↔
    t.station = s.station ∧ t.profile = s.profile ∧ t.slots = s.slots := by
  simp [tableView]

/-- A latch that no acknowledgement can clear: kind LEVEL, slot ASSERTED, latch SET (R54). -/
theorem slotHeld_iff (s : State) (k : Fin 48) :
    slotHeld s k = true ↔
      (s.profile.slots.get k).kind = .level ∧ (s.slots.get k).level = .asserted
        ∧ (s.slots.get k).latch = true := by
  simp [slotHeld, and_assoc]

section Table

variable {due : List Transition} {s t : State}

/-- Slots keep the law if their levels stand, none is given up, no latch is set and the held ones stay. -/
theorem SlotsOk.of_entries (h : SlotsOk due s) (station : t.station = s.station)
    (profile : t.profile = s.profile) (level : ∀ k, (t.slots.get k).level = (s.slots.get k).level)
    (own : ∀ k, (t.slots.get k).own = .unowned → (s.slots.get k).own = .unowned)
    (latch : ∀ k, (t.slots.get k).latch = true → (s.slots.get k).latch = true)
    (held : ∀ k, slotHeld s k = true → (t.slots.get k).latch = true) : SlotsOk due t where
  unowned k free := by
    rw [level]
    exact h.unowned k (own k free)
  held delivers k kind asserted := by
    rw [station] at delivers
    rw [profile] at kind
    rw [level] at asserted
    exact (h.held delivers k kind asserted).imp_left fun latched =>
      held k ((slotHeld_iff s k).mpr ⟨kind, asserted, latched⟩)
  clear silent k := by
    rw [station] at silent
    have was_clear := h.clear silent k
    by_contra set
    simp [latch k (by simpa using set)] at was_clear

theorem SlotsOk.of_view (h : SlotsOk due s) (same : tableView t = tableView s) : SlotsOk due t := by
  obtain ⟨station, profile, slots⟩ := tableView_eq.mp same
  exact h.of_entries station profile (by simp [slots]) (by simp [slots]) (by simp [slots])
    fun k held => by rw [slots]; exact ((slotHeld_iff s k).mp held).2.2

/-- A station that delivers nothing has no latch to set (R50). -/
theorem SlotsOk.of_silent {due' : List Transition} (h : SlotsOk due s)
    (silent : s.station.delivers = false) (silent' : t.station.delivers = false)
    (slots : t.slots = s.slots) : SlotsOk due' t where
  unowned := by rw [slots]; exact h.unowned
  held delivers := by simp [silent'] at delivers
  clear _ := by rw [slots]; exact h.clear silent

/-- A reset leaves every slot RELEASED with its latch CLEAR (R148). -/
theorem SlotsOk.reset (silent : s.station.delivers = false) (slots : s.slots = State.reset.slots) :
    SlotsOk due s where
  unowned k _ := by simp [slots]
  held delivers := by simp [silent] at delivers
  clear _ k := by simp [slots]

/-! #### Events between deliveries -/

/-- An acknowledgement touches latches alone (R54). -/
theorem ackSlotRange_own_level (first count : Nat) (s : State) (k : Fin 48) :
    ((ackSlotRange first count s).slots.get k).own = (s.slots.get k).own
      ∧ ((ackSlotRange first count s).slots.get k).level = (s.slots.get k).level := by
  simp only [ackSlotRange, State.setSlots_slots, get_tab]
  split <;> exact ⟨rfl, rfl⟩

/-- ACK_SLOTS leaves the held latches SET (R54). -/
theorem SlotsOk.ackSlotRange (h : SlotsOk due s) (first count : Nat) :
    SlotsOk due (ackSlotRange first count s) := by
  have entry := ackSlotRange_own_level first count s
  refine h.of_entries (by simp) (by simp) (fun k => (entry k).2) (fun k => by simp [(entry k).1])
    (fun k latched => ((ackSlotRange_latch first count s k).mp latched).1) fun k held => ?_
  obtain ⟨kind, asserted, latched⟩ := (slotHeld_iff s k).mp held
  exact (ackSlotRange_latch first count s k).mpr ⟨latched, fun _ => ⟨kind, asserted⟩⟩

/-- ACK_SLOTS is the one accepted request, RESTART aside, that touches the slot table (R168 to R172). -/
theorem requestActions_table : ∀ act ∈ requestActions, ∀ tag ops s,
    tableView (act tag ops s) = tableView s
      ∨ ∃ first count, tableView (act tag ops s) = tableView (ackSlotRange first count s) := by
  intro act mem tag ops s
  simp only [requestActions, List.mem_cons, List.not_mem_nil, or_false] at mem
  rcases mem with rfl | rfl | rfl | rfl | rfl | rfl | rfl | rfl | rfl | rfl | rfl
  case inr.inr.inr.inr.inr.inl =>
    exact .inr ⟨(ops.getD 0 0).toNat, (ops.getD 1 0).toNat, by simp only [actAckSlots, tableView, answer_keeps]⟩
  all_goals exact .inl (by simp [tableView])

/-- What the port, the journal and the action of a write keep, the write keeps. -/
theorem kept_by_takeRequest {P : State → Prop} (journal : ∀ s x, P s → P (s.setJournal x))
    (port : ∀ s x, P s → P (s.setPort x)) {act : Byte → List Byte → State → State}
    (action : ∀ tag ops s, P s → P (act tag ops s)) (c : Option RequestCode) (rest : List Byte)
    {s : State} (h : P s) : P (takeRequest c rest act s) := by
  have taken : P (endHandOver (ackWrite (rest.length + 1) s)) := port _ _ (journal _ _ (port _ _ h))
  unfold takeRequest
  dsimp only
  (repeat' split)
  · exact port _ _ taken
  · exact action _ _ _ taken
  · exact port _ _ taken

theorem SlotsOk.takeWrite (h : SlotsOk due s) (code : Byte) (rest : List Byte) (stn : BitVec 4)
    (addr : BitVec 2) : SlotsOk due (takeWrite code rest stn addr s) := by
  rcases takeWrite_cases code rest stn addr s with ⟨e, -⟩ | ⟨c, act, mem, e⟩
  · rw [e]
    exact .reset rfl rfl
  · rw [e]
    refine kept_by_takeRequest (fun _ _ h => h.of_view rfl) (fun _ _ h => h.of_view rfl)
      (fun tag ops s h => ?_) c rest h
    rcases requestActions_table act mem tag ops s with same | ⟨first, count, same⟩
    · exact h.of_view same
    · exact (h.ackSlotRange first count).of_view same

/-- A withdrawal moves slots from LOCAL to REMOTE, and nothing else of the table (R56). -/
theorem SlotsOk.withdraw (h : SlotsOk due s) (station : t.station = s.station)
    (profile : t.profile = s.profile) (slots : t.slots = (withdrawClaims (clearInFlight s)).slots) :
    SlotsOk due t := by
  have entry (k : Fin 48) : (t.slots.get k).level = (s.slots.get k).level
      ∧ (t.slots.get k).latch = (s.slots.get k).latch
      ∧ ((t.slots.get k).own = .unowned → (s.slots.get k).own = .unowned) := by
    rw [slots, withdrawn_slot]
    split <;> simp
  exact h.of_entries station profile (fun k => (entry k).1) (fun k => (entry k).2.2)
    (fun k => by simp [(entry k).2.1]) fun k held => by
      rw [(entry k).2.1]
      exact ((slotHeld_iff s k).mp held).2.2

theorem SlotsOk.stuckExpires (h : SlotsOk due s) : SlotsOk due (stuckExpires s) := by
  by_cases stuck : s.StuckDue
  · rw [stuckExpires_of_due stuck]
    (repeat' split)
    · exact h.withdraw (by simp [reportStuck_eq]) (by simp [reportStuck_eq]) (by simp [reportStuck_eq])
    · unfold eitherOrder
      dsimp only
      split <;>
        exact h.withdraw (by simp [reportStuck_eq, reportContest_eq])
          (by simp [reportStuck_eq, reportContest_eq]) (by simp [reportStuck_eq, reportContest_eq])
    · exact h.of_view (by simp [reportStuck_eq, tableView])
  · rwa [stuckExpires_of_not_due stuck]

/-- Every event between deliveries keeps the law of the slot table, whatever is still to be delivered
(R49). -/
theorem SlotsOk.takeMid (h : SlotsOk due s) (e : MidEvent) : SlotsOk due (takeMid e s) := by
  cases e with
  | powerOnReset | pinReset => exact .reset rfl rfl
  | stuckTimerExpiry => exact h.stuckExpires
  | request code w stn addr =>
    simp only [Machine.takeMid, addressed]
    split
    · exact h.takeWrite code w.rest stn addr
    · exact h
  | responseRead r =>
    exact h.of_view (addressed_keeps tableView _ _ s (by simp [tableView]))
  | _ => exact h.of_view (by simp [tableView, Machine.takeMid])

/-! #### The deliveries of a frame (R46, R49, R52) -/

/-- A delivery sets the latch of a LEVEL slot that rises (R52). -/
theorem SlotsOk.deliver {tr : Transition} (h : SlotsOk (tr :: due) s)
    (delivers : s.station.delivers = true) : SlotsOk due (deliver tr s) where
  unowned k := by
    rw [deliver_slot]
    exact h.unowned k
  held _ k kind asserted := by
    have profile : (Machine.deliver tr s).profile = s.profile := by simp
    rw [profile] at kind
    rw [deliver_slot] at asserted ⊢
    rcases h.held delivers k kind asserted with latched | ⟨tr', mem, slot, rises⟩
    · exact .inl (by simp [latched])
    · rcases List.mem_cons.mp mem with rfl | later
      · exact .inl (by simp [slot, kind, rises, setsLatch])
      · exact .inr ⟨tr', later, slot, rises⟩
  clear silent := by simp [delivers] at silent

/-- Each delivery sets what it owes; a reset before one leaves nothing to be set. -/
theorem SlotsOk.deliverAll {trs : List Transition} (h : SlotsOk trs s)
    (between : List (List MidEvent)) : SlotsOk [] (deliverAll trs between s) := by
  induction trs generalizing between s with
  | nil => exact h
  | cons tr trs ih =>
    have after_events := kept_by_takeMids (P := SlotsOk (tr :: trs)) (fun e _ h => h.takeMid e)
      (between.headD []) h
    rw [deliverAll_cons]
    split
    · exact ih (after_events.deliver ‹_›) between.tail
    · have silent := Bool.eq_false_iff.mpr ‹_›
      exact after_events.of_silent silent silent rfl

/-- A frame taken whole leaves to be set just the latches of the LEVEL slots that it raises (R43, R45). -/
theorem SlotsOk.applied (h : SlotsOk [] s) :
    SlotsOk (s.changedSlots.map s.frameTransition) s.applied where
  unowned k free := by
    rw [applied_slot] at free ⊢
    have absent : s.lif.presence.get k = false := by
      by_contra present
      rw [if_neg present] at free
      split at free <;> cases free
    simp [State.frameLevel, absent]
  held delivers k kind asserted := by
    have same : s.applied.station = s.station ∧ s.applied.profile = s.profile := by simp
    rw [same.1] at delivers
    rw [same.2] at kind
    rw [applied_slot] at asserted ⊢
    by_cases changed : s.frameLevel k = (s.slots.get k).level
    · exact (h.held delivers k kind (changed ▸ asserted)).imp_right fun ⟨_, mem, _⟩ =>
        absurd mem List.not_mem_nil
    · exact .inr ⟨s.frameTransition k, List.mem_map_of_mem (mem_changedSlots.mpr changed), rfl, asserted⟩
  clear silent k := by
    have station : s.applied.station = s.station := by simp
    rw [station] at silent
    rw [applied_slot]
    exact h.clear silent k

/-! #### The census (R43, R44, R50, R51) -/

theorem applySlot_latch (owned present driven : Bool) (e : SlotEntry) :
    (applySlot owned present driven e).latch = e.latch := by
  unfold applySlot
  split <;> rfl

theorem applySlot_unowned {owned present driven : Bool} {e : SlotEntry}
    (free : (applySlot owned present driven e).own = .unowned) :
    (applySlot owned present driven e).level = .released := by
  cases present <;> cases owned <;> simp_all [applySlot]

/-- A frame learnt in LISTEN sets no latch (R50). -/
theorem SlotsOk.learnFrame (h : SlotsOk [] s) (silent : s.station.delivers = false) :
    SlotsOk [] (learnFrame s) where
  unowned k := by
    simp only [Machine.learnFrame, appliedSlots, State.setSlots_slots, get_tab]
    exact applySlot_unowned
  held delivers := by simp [silent] at delivers
  clear _ k := by
    simp only [Machine.learnFrame, appliedSlots, State.setSlots_slots, get_tab, applySlot_latch]
    exact h.clear silent k

/-- The completing frame leaves every UNOWNED slot RELEASED (R44). -/
theorem learnWithClaims_unowned (s : State) (k : Fin 48)
    (free : ((learnWithClaims s).slots.get k).own = .unowned) :
    ((learnWithClaims s).slots.get k).level = .released := by
  simp only [learnWithClaims, State.setSlots_slots, get_tab] at free ⊢
  split
  · rfl
  · rw [if_neg ‹_›] at free
    exact applySlot_unowned free

/-- The step out of LISTEN seeds the latch of every LEVEL slot that is ASSERTED (R51). -/
theorem SlotsOk.leaveListen
    (unowned : ∀ k, (s.slots.get k).own = .unowned → (s.slots.get k).level = .released) :
    SlotsOk [] (leaveListen s) where
  unowned k := by
    rw [leaveListen_slots, seedLatches_slot]
    exact unowned k
  held _ k kind asserted := by
    have profile : (Machine.leaveListen s).profile = s.profile := by simp
    rw [profile] at kind
    rw [leaveListen_slots, seedLatches_slot] at asserted ⊢
    exact .inl (by simp_all)
  clear silent := by
    rw [leaveListen_station, Owner.joins] at silent
    split at silent <;> cases silent

theorem SlotsOk.completeCensus (s : State) : SlotsOk [] (completeCensus s) :=
  .leaveListen (learnWithClaims_unowned _)

theorem SlotsOk.censusFrame (h : SlotsOk [] s) (listen : s.station = .listen) :
    SlotsOk [] (censusFrame s) := by
  have counted : SlotsOk [] (countCensus s) := h.of_view (by simp [tableView])
  unfold Machine.censusFrame
  dsimp only
  split
  · exact (SlotsOk.completeCensus (countCensus s)).of_view (by simp [tableView])
  · exact (counted.learnFrame (by simp [listen, Station.delivers])).of_view (by simp [tableView])

/-! #### The other commands -/

/-- A void end leaves the table as the withdrawals do (R13, R34). -/
theorem endVoid_slots (s : State) : (endVoid s).slots = s.voided.slots := by
  rcases endVoid_cases s with ⟨-, -, e⟩ | ⟨-, -, e⟩ | ⟨-, -, e⟩ | ⟨-, -, e | e⟩ <;>
    simp [e, reportBackoff_eq, reportContest_eq]

theorem SlotsOk.endVoid (h : SlotsOk due s) : SlotsOk due (endVoid s) := by
  have lif : SlotsOk due (s.setLif s.lif.endVoid) := h.of_view rfl
  exact lif.withdraw (by simp) (by simp) (endVoid_slots s)

theorem SlotsOk.endFrame (h : SlotsOk [] s) (check : Sample) (between : List (List MidEvent)) :
    SlotsOk [] (endFrame check between s) := by
  by_cases atCheck : s.AtCheck
  · have checked : SlotsOk [] (s.checked check) := h.of_view (by simp [tableView])
    by_cases valid : check = .free ∧ s.lif.fault = false
    · obtain ⟨rfl, clean⟩ := valid
      rcases Station.onLine_iff.mp atCheck.1 with listen | station
      · rw [endFrame_of_atCheck .free between atCheck, if_pos ⟨rfl, clean⟩,
          endValid_listen between (by simpa using listen)]
        have counted : SlotsOk [] (countValid (s.checked .free)) := h.of_view (by simp [tableView])
        exact counted.censusFrame (by simpa using listen)
      · rw [show Machine.endFrame .free between s = _ from
          Host.Outcome.next.inj (exec_frameEnd_valid atCheck station clean between)]
        exact h.applied.deliverAll between
    · rw [endFrame_of_atCheck check between atCheck, if_neg valid]
      exact checked.endVoid
  · rw [endFrame_of_not_atCheck check between atCheck]
    exact h.of_view (by simp [tableView])

/-- A profile comes into force in LISTEN, where no latch is set (R50, R158). -/
theorem SlotsOk.takeImageByte (h : SlotsOk due s) (b : Byte) : SlotsOk due (takeImageByte b s) := by
  rcases takeImageByte_cases b s with ⟨l, e⟩ | ⟨loading, l, p, e, -⟩
  · rw [e]
    exact h.of_view rfl
  · rw [e]
    exact h.of_silent (by simp [loading, Station.delivers])
      (by simp [endLoading_station, Station.delivers]) (by simp)

theorem SlotsOk.resetEnds (h : SlotsOk due s) (stn : BitVec 4) (addr : BitVec 2) :
    SlotsOk due (resetEnds stn addr s) := by
  unfold Machine.resetEnds
  split
  · rename_i reset
    exact h.of_silent (by simp [reset, Station.delivers]) rfl rfl
  · exact h

end Table

/-- Settles O58: each command keeps the law of the slot table, a frame's deliveries by setting in turn the
latches that the applied frame owes. -/
theorem slotLawKept : Obligations.SlotLawKept := by
  intro s t law hs
  rw [slotLaw_iff] at law ⊢
  refine kept_by_step (P := SlotsOk []) (fun _ _ h => h.of_view rfl) ?_ law hs
  exact fun c s t h he => kept_by_exec (P := SlotsOk [])
    (fun e _ h => h.takeMid e) (fun stn addr _ h => h.resetEnds stn addr)
    (fun b _ h => h.takeImageByte b) (fun _ h => h.of_view (by simp [tableView]))
    (fun x between _ h => h.endFrame x between) h he

end Sys2Proof.Machine

/-! ### The values after reset (R148)

The tables have one lemma each; the pins are undriven because every output waits for the line, for LOADING or
for an address that the port acknowledges. -/

namespace Sys2Proof.Machine

open Sys2Proof

@[simp] theorem reset_soft (k : Fin 4) : State.reset.soft.get k = .released := get_tab _ k

@[simp] theorem reset_input (i : Fin 12) :
    State.reset.inputs.get i =
      { raw := .notSampled, timer := .stopped, filtered := .released, output := .released } :=
  get_tab _ i

@[simp] theorem reset_cond (c : Fin 7) : State.reset.conds.get c = false := get_tab _ c

/-- No read of the image is open in RESET (R149). -/
theorem reset_no_read : readOpen State.reset = false := rfl

/-- In RESET the port acknowledges no address (R163). -/
theorem reset_no_answer (dst : BitVec 7) : portAnswers State.reset dst = false := rfl

theorem openDrain_false : openDrain false = .undriven := rfl

theorem reset_attnPin : attnPin State.reset = .undriven := by
  simp [attnPin, attnAsserted, reset_offLine, openDrain_false]

theorem reset_wakePin : wakePin State.reset = .undriven := by
  simp [wakePin, wakeAsserted, reset_offLine, openDrain_false]

theorem reset_indicatorPin (n : Fin 2) : indicatorPin State.reset n = .undriven := by
  simp [indicatorPin, reset_offLine]

theorem reset_sdaPin (bit : BusBit) : sdaPin State.reset bit = .undriven := by
  cases bit with
  | hosts => rfl
  | addressAck dst => simp [sdaPin, reset_no_answer, openDrain_false]
  | writeAck dst n => simp [sdaPin, reset_no_answer, openDrain_false]
  | readData dst n i => simp [sdaPin, reset_no_answer, openDrain_false]

/-- Settles O6: the blocks by definition, their tables entry by entry, and no output driven. -/
theorem resetValues : Obligations.ResetValues := by
  have chans (c : Fin 16) : (State.reset.chans.get c).state = .unused
      ∧ (State.reset.chans.get c).level = .released ∧ (State.reset.chans.get c).sent = .released
      ∧ (State.reset.chans.get c).pending = [] ∧ (State.reset.chans.get c).inFlight = false := by simp
  exact ⟨rfl, rfl, rfl, rfl, reset_slot, chans, reset_soft, reset_input, rfl, reset_pattern, reset_cond,
    rfl, rfl, rfl, rfl, rfl, rfl, rfl, rfl, rfl, rfl, reset_attnPin, reset_wakePin, reset_indicatorPin,
    by simp [mcsPin, reset_no_read, openDrain_false], fun half => by simp [mckPin, reset_no_read],
    fun n => by simp [mdoPin, reset_no_read], rfl, reset_sdaPin⟩

end Sys2Proof.Machine

/-! ### Accepted requests (R146, R164 to R167) -/

namespace Sys2Proof.Machine

open Sys2Proof

theorem Station.not_idle_of_onLine {st : Station} (h : st.onLine = true) : st ≠ .reset ∧ st ≠ .loading := by
  constructor <;> rintro rfl <;> cases h

/-- The station with the write acknowledged and every hand-over ended, before the request acts (R146). -/
def State.asked (bytes : Nat) (s : State) : State := endHandOver (ackWrite bytes s)

/-- On the line an accepted request acts (R166, R167). -/
theorem takeRequest_accepted {code : Option RequestCode} {rest : List Byte} {s : State}
    (on : s.station.onLine = true) (accepted : judgeRequest code rest = .ok)
    (act : Byte → List Byte → State → State) :
    takeRequest code rest act s = act (requestTag rest) rest.tail (s.asked (rest.length + 1)) := by
  have loaded := (Station.not_idle_of_onLine on).2
  simp [takeRequest, loaded, accepted, State.asked]

/-- The answer of an accepted request that touches the slot table at most (R166). -/
theorem answer_asked (tag : Byte) (data : List Byte) (bytes : Nat) (slots : Vector SlotEntry 48)
    (s : State) :
    answer tag data ((s.asked bytes).setSlots slots) =
      { s with
        journal := s.journal.released
        port := s.port.answered bytes tag .ok false data
        slots := slots } := by
  have acked : min bytes Config.requestMax = if bytes < 8 then bytes else 8 := by
    simp only [Config.requestMax]
    split <;> omega
  apply State.ext_fields <;>
    simp [answer, respond, State.asked, endHandOver, ackWrite, acked, Port.answered, Journal.released]

end Sys2Proof.Machine

/-! ### GET_STATUS (R168, section 11.4) -/

namespace Sys2Proof.Machine

open Sys2Proof

/-! #### Numbers in bytes (chapter 11) -/

theorem byteOf_toNat {n : Nat} (h : n < 256) : (byteOf n).toNat = n := by
  simpa [byteOf] using Nat.mod_eq_of_lt h

/-- A flag as the value of bit `n` of a byte. -/
def bitAt (b : Bool) (n : Nat) : Nat := if b then 2 ^ n else 0

theorem bitAt_succ (b : Bool) (n : Nat) : bitAt b (n + 1) = 2 * bitAt b n := by
  simp only [bitAt, pow_succ]
  split <;> omega

theorem packBits_lt (bs : List Bool) : packBits bs < 2 ^ bs.length := by
  induction bs with
  | nil => simp [packBits]
  | cons b bs ih =>
    have first : (if b then 1 else 0) ≤ 1 := by split <;> omega
    simp only [packBits, List.length_cons, pow_succ]
    omega

/-- At most eight flags fit in a byte. -/
theorem byteOf_packBits_toNat {bs : List Bool} (h : bs.length ≤ 8) :
    (byteOf (packBits bs)).toNat = packBits bs :=
  byteOf_toNat ((packBits_lt bs).trans_le (Nat.pow_le_pow_right (by decide) h))

theorem packBits_concat (bs : List Bool) (b : Bool) :
    packBits (bs ++ [b]) = packBits bs + bitAt b bs.length := by
  induction bs with
  | nil => simp [packBits, bitAt]
  | cons a bs ih =>
    simp only [List.cons_append, packBits, ih, List.length_cons, bitAt_succ]
    omega

/-- A table of flags packs entry `i` into bit `i`. -/
theorem packBits_flagBits {n : Nat} (v : Fin n → Bool) :
    packBits (flagBits v) = ((List.finRange n).map fun i => bitAt (v i) i.val).sum := by
  induction n with
  | zero => rfl
  | succ n ih =>
    have tail := ih fun i => v i.succ
    simp only [flagBits] at tail ⊢
    simp only [List.finRange_succ, List.map_cons, List.map_map, packBits, Function.comp_def, tail,
      List.sum_cons, Fin.val_succ, bitAt_succ, List.sum_map_mul_left]
    simp [bitAt]

@[simp] theorem flagBits_length {n : Nat} (v : Fin n → Bool) : (flagBits v).length = n := by
  simp [flagBits]

/-- A table of at most eight flags in a byte. -/
theorem byteOf_flagBits_toNat {n : Nat} (h : n ≤ 8) (v : Fin n → Bool) :
    (byteOf (packBits (flagBits v))).toNat = ((List.finRange n).map fun i => bitAt (v i) i.val).sum := by
  rw [byteOf_packBits_toNat (by simpa using h), packBits_flagBits]

/-- A 16-bit quantity is sent low byte first (chapter 11). -/
theorem word16_toNat (w : BitVec 16) :
    (word16 w).map BitVec.toNat = [w.toNat % 256, w.toNat / 256] := by
  have := w.isLt
  simp [word16, Nat.shiftRight_eq_div_pow]
  omega

/-! #### The fourteen bytes -/

theorem Level.bit_eq (v : Level) : v.bit = (v == .asserted) := by cases v <;> rfl

theorem LineState.code_le (l : LineState) : l.code ≤ 3 := by cases l <;> decide

theorem HostPower.code_le (h : HostPower) : h.code ≤ 2 := by cases h <;> decide

theorem ImageStatus.code_le (i : ImageStatus) : i.code ≤ 1 := by cases i <;> decide

/-- Byte 1: the line state, the backoff flag and the host power state (R168). -/
theorem lineByte_toNat (s : State) :
    (byteOf (s.lif.line.code + 4 * packBits [s.lif.backoff] + 16 * (hostPower s).code)).toNat =
      s.lif.line.code + bitAt s.lif.backoff 2 + 16 * (hostPower s).code := by
  have backoff : 4 * packBits [s.lif.backoff] = bitAt s.lif.backoff 2 := by
    cases s.lif.backoff <;> rfl
  have line := s.lif.line.code_le
  have host := (hostPower s).code_le
  have bit : bitAt s.lif.backoff 2 ≤ 4 := by unfold bitAt; split <;> decide
  rw [backoff, byteOf_toNat (by omega)]

/-- Byte 5: the profile index and the image status (R168). -/
theorem imageByte_toNat (s : State) :
    (byteOf (s.stationCode.toNat + 16 * s.loader.status.code)).toNat =
      s.stationCode.toNat + 16 * s.loader.status.code := by
  have index := s.stationCode.isLt
  have status := s.loader.status.code_le
  exact byteOf_toNat (by omega)

theorem reasonByte_toNat (r : FaultReason) : (byteOf r.code).toNat = r.code :=
  byteOf_toNat (by cases r <;> decide)

/-- Byte 7: the condition latches, and the held mark of LINE_STUCK (R119, R168). -/
theorem condByte_toNat (s : State) :
    (byteOf (packBits (flagBits s.conds.get ++ [stuckHeld s]))).toNat =
      ((List.finRange 7).map fun c => bitAt (s.conds.get c) c.val).sum + bitAt (stuckHeld s) 7 := by
  rw [byteOf_packBits_toNat (by simp), packBits_concat, packBits_flagBits, flagBits_length]

/-- The bytes of a status as numbers (R168, section 11.4). -/
theorem statusData_toNat (s : State) :
    (statusData s).map BitVec.toNat =
      [ s.station.code.toNat,
        s.lif.line.code + bitAt s.lif.backoff 2 + 16 * (hostPower s).code,
        s.lif.voidCount % 256,
        s.lif.validCount.toNat % 256, s.lif.validCount.toNat / 256,
        s.stationCode.toNat + 16 * s.loader.status.code,
        s.loader.reason.code,
        ((List.finRange 7).map fun c => bitAt (s.conds.get c) c.val).sum + bitAt (stuckHeld s) 7,
        ((List.finRange 6).map fun g => bitAt (groupSummary s g) g.val).sum,
        ((List.finRange 8).map fun p => bitAt (s.patterns.get p).latch p.val).sum,
        s.journal.records.length % 256,
        s.journal.lost.toNat % 256, s.journal.lost.toNat / 256,
        ((List.finRange 4).map fun k => bitAt (s.soft.get k == .asserted) k.val).sum ] := by
  have count (n : Nat) : (byteOf n).toNat = n % 256 := by simp [byteOf]
  simp only [statusData, List.map_append, List.map_cons, List.map_nil, word16_toNat, lineByte_toNat,
    imageByte_toNat, reasonByte_toNat, condByte_toNat, byteOf_flagBits_toNat, Nat.reduceLeDiff,
    count s.lif.voidCount, count s.journal.records.length, Level.bit_eq, List.cons_append, List.nil_append]

/-- Group `g` is summed up over the eight slots of its number (R57). -/
theorem groupSummary_iff (s : State) (g : Fin 6) :
    groupSummary s g = true ↔ ∃ k : Fin 48, k.val / 8 = g.val ∧ (s.slots.get k).latch = true := by
  simp [groupSummary]

theorem exec_getStatus {s : State} (on : s.station.onLine = true) (tag : Byte) :
    exec (.getStatus ⟨portAddress s, [tag]⟩) s =
      .next
        { s with
          journal := s.journal.released
          port := s.port.answered 2 tag .ok false (statusData s) } := by
  have accepted : judgeRequest (some .getStatus) [tag] = .ok := rfl
  refine congrArg Host.Outcome.next ?_
  rw [addressed_own _ s (Station.not_idle_of_onLine on).1]
  exact (takeRequest_accepted on accepted _).trans (answer_asked tag (statusData s) 2 s.slots s)

/-- Settles O43: the status is built byte by byte, and its request does nothing else. -/
theorem getStatus : Obligations.GetStatus := by
  intro s tag on
  refine ⟨statusData s, exec_getStatus on tag, ?_, groupSummary_iff s⟩
  rw [statusData_toNat]
  cases s.station <;> cases s.loader.status <;> rfl

end Sys2Proof.Machine

/-! ### ACK_SLOTS (R54, R171) -/

namespace Sys2Proof.Machine

open Sys2Proof

theorem inRange_iff (first count : Nat) (k : Fin 48) :
    inRange first count k = true ↔ first ≤ k.val ∧ k.val < first + count := by
  simp [inRange]

theorem mem_heldSlots {first count : Nat} {s : State} {k : Fin 48} :
    k ∈ heldSlots first count s ↔ inRange first count k = true ∧ slotHeld s k = true := by
  simp [heldSlots]

theorem slotNumber_toNat (k : Fin 48) : (byteOf k.val).toNat = k.val := byteOf_toNat (by omega)

/-- The data of ACK_SLOTS: the held slots of the range (R171). -/
def State.heldData (first count : Nat) (s : State) : List Byte :=
  (heldSlots first count s).map fun k => byteOf k.val

theorem heldData_ascending (first count : Nat) (s : State) :
    ((s.heldData first count).map BitVec.toNat).Pairwise (· < ·) := by
  have numbers : (s.heldData first count).map BitVec.toNat = (heldSlots first count s).map Fin.val := by
    simp [State.heldData, slotNumber_toNat]
  rw [numbers, List.pairwise_map]
  exact (List.pairwise_lt_finRange 48).filter _

theorem mem_heldData {first count : Nat} {s : State} {b : Byte} :
    b ∈ s.heldData first count ↔
      ∃ k : Fin 48, b.toNat = k.val ∧ inRange first count k = true ∧ slotHeld s k = true := by
  have named (k : Fin 48) : byteOf k.val = b ↔ b.toNat = k.val := by
    rw [← BitVec.toNat_inj, slotNumber_toNat, eq_comm]
  simp only [State.heldData, List.mem_map, mem_heldSlots, named]
  exact exists_congr fun k => and_comm

theorem exec_ackSlots {s : State} (on : s.station.onLine = true) {tag first count : Byte}
    (accepted : rangeAccepted 48 48 first count = true) :
    exec (.ackSlots ⟨portAddress s, [tag, first, count]⟩) s =
      .next
        { s with
          journal := s.journal.released
          port := s.port.answered 4 tag .ok false (s.heldData first.toNat count.toNat)
          slots := (ackSlotRange first.toNat count.toNat s).slots } := by
  have judged : judgeRequest (some .ackSlots) [tag, first, count] = .ok := by
    simp [judgeRequest, Config.requestMax, operandCount, operandsAccepted, accepted]
  refine congrArg Host.Outcome.next ?_
  rw [addressed_own _ s (Station.not_idle_of_onLine on).1]
  exact (takeRequest_accepted on judged _).trans (answer_asked tag _ 4 _ s)

/-- Settles O47: the held latches of the range stay and are reported, every other one is cleared. -/
theorem ackSlots : Obligations.AckSlots := by
  intro s tag first count on inside some_slot few fits
  refine ⟨_, _, exec_ackSlots on (rangeAccepted_of inside some_slot few fits), rfl, fun k => ?_,
    heldData_ascending _ _ s, fun b => ?_⟩
  · obtain ⟨own, level⟩ := ackSlotRange_own_level first.toNat count.toNat s k
    refine ⟨own, level, (ackSlotRange_latch _ _ s k).trans (and_congr_right fun latched => ?_)⟩
    simp [latched]
  · simp only [mem_heldData, inRange_iff, slotHeld_iff]

end Sys2Proof.Machine

/-! ### The queue rule, and the law of the pending lists (R62 to R70)

A channel that takes a level keeps the law of its list, so every event that moves channels by their sources
alone keeps the law of them all. What remains are the transmit side's own operations: the snapshot at a
frame's start, the head consumed at its valid end, the marks and lists dropped at a void one, and the lists
built at the step out of LISTEN. -/

namespace Sys2Proof.Machine

open Sys2Proof

/-! #### One channel -/

theorem take_same (ch : Channel) : ch.take ch.level = ch := if_pos rfl

theorem take_of_owned {ch : Channel} {v : Level} (owned : ch.state = .owned) (new : v ≠ ch.level) :
    ch.take v = { ch with level := v, pending := pendingAfter ch.sent ch.pending v } := by
  simp [Channel.take, new, owned]

theorem take_of_not_owned {ch : Channel} (h : ch.state ≠ .owned) (v : Level) :
    ch.take v = { ch with level := v } := by
  by_cases same : v = ch.level
  · subst same
    exact take_same ch
  · simp [Channel.take, same, h]

/-- A channel that takes a level keeps the law of its list (R62, R63). -/
theorem Channel.Lawful.take {ch : Channel} (law : ch.Lawful) (v : Level) : (ch.take v).Lawful := by
  obtain ⟨list, idle, reached, head⟩ := law
  by_cases owned : ch.state = .owned
  · by_cases same : v = ch.level
    · rw [same, take_same]
      exact ⟨list, idle, reached, head⟩
    · rw [take_of_owned owned same]
      refine ⟨pendingAfter_lawful list v, fun other => absurd owned other,
        fun _ => target_pendingAfter list v, fun flight nil => ?_⟩
      have first := head_pendingAfter (sent := ch.sent) (head flight) v
      rw [show pendingAfter ch.sent ch.pending v = [] from nil] at first
      exact head flight (List.head?_eq_none_iff.mp first.symm)
  · rw [take_of_not_owned owned]
    exact ⟨list, idle, fun o => absurd o owned, head⟩

theorem transmit_iff (s : State) :
    transmit s = true ↔ ∃ c, (s.chans.get c).state = .owned ∧ (s.chans.get c).pending ≠ [] := by
  simp [transmit]

/-- Settles O41: the three shapes of a lawful list give the table of the queue rule. -/
theorem queueRule : Obligations.QueueRule := by
  refine ⟨fun ch v owned new reached => ?_, fun ch v other => take_of_not_owned other v,
    transmit_iff⟩
  have pending : (ch.take v).pending = pendingAfter ch.sent ch.pending v := by
    rw [take_of_owned owned new]
  have off_target : v ≠ target ch.sent ch.pending := reached ▸ new
  refine ⟨fun nil => ?_, fun head one ne => ?_, fun head second two _ _ => ?_, fun law => ?_, by simp⟩
  · rw [pending, nil]
    exact if_neg (nil ▸ off_target)
  · have v_ne : v ≠ head := by simpa [target, one] using off_target
    refine ⟨?_, (Level.eq_opposite_of_ne v_ne).trans (Level.eq_opposite_of_ne ne.symm).symm⟩
    rw [pending, one]
    exact if_neg (one ▸ off_target)
  · rw [pending, two]
    exact if_neg (two ▸ off_target)
  · refine ⟨law.take v, ?_⟩
    obtain ⟨-, -, taken, -⟩ := law.take v
    simpa using taken (by simpa using owned)

theorem foldl_take_lawful {ch : Channel} (law : ch.Lawful) (levels : List Level) :
    (levels.foldl Channel.take ch).Lawful := by
  induction levels generalizing ch with
  | nil => exact law
  | cons v levels ih => exact ih (law.take v)

/-- A channel that owns nothing has no list and no mark (R64). -/
theorem lawful_of_not_owned {ch : Channel} (other : ch.state ≠ .owned) (nil : ch.pending = [])
    (ground : ch.inFlight = false) : ch.Lawful :=
  ⟨.inl nil, fun _ => ⟨nil, ground⟩, fun owned => absurd owned other,
    fun flight => by simp [ground] at flight⟩

/-- The mark may be dropped, or put where there is a head (R65, R69). -/
theorem Channel.Lawful.mark {ch : Channel} (law : ch.Lawful) (owned : ch.state = .owned) {flight : Bool}
    (head : flight = true → ch.pending ≠ []) : { ch with inFlight := flight }.Lawful := by
  obtain ⟨list, -, reached, -⟩ := law
  exact ⟨list, fun other => absurd owned other, reached, head⟩

/-- The head in flight becomes the sent level, and what is left of the list is lawful for it (R67). -/
theorem Channel.Lawful.consume {ch : Channel} (law : ch.Lawful) : ch.consume.Lawful := by
  rw [consume_eq]
  split
  · next consumes =>
    obtain ⟨list, -, reached, head⟩ := law
    obtain ⟨owned, flight⟩ := consumes
    have target_level := reached owned
    refine ⟨?_, fun other => absurd owned other, fun _ => ?_, fun f => by simp at f⟩ <;>
      rcases list with nil | one | two
    case refine_1.inl | refine_2.inl => exact absurd nil (head flight)
    · exact .inl (by simp [one])
    · exact .inr (.inl (by simp [two]))
    · rw [← target_level]
      simp [one, target]
    · rw [← target_level]
      simp [two, target]
  · exact law

/-- A void end drops a claim with its list and mark, or the mark alone (R69, R70). -/
theorem voidChannel_lawful {s : State} {c : Fin 16} (law : (s.chans.get c).Lawful) :
    (s.voidChannel c).Lawful := by
  by_cases owned : (s.chans.get c).state = .owned
  · cases contended : s.lif.contention.get (s.profile.chans.get c).slot with
    | true =>
      rw [voidChannel_contended owned contended]
      exact lawful_of_not_owned (by simp) rfl rfl
    | false =>
      rw [voidChannel_calm owned contended]
      exact law.mark owned (by simp)
  · have still : s.voidChannel c = s.chans.get c := by simp [State.voidChannel, owned]
    rwa [still]

theorem voidChannel_owned {s : State} {c : Fin 16} (owned : (s.voidChannel c).state = .owned) :
    (s.chans.get c).state = .owned := by
  by_contra other
  simp [State.voidChannel, other] at owned

/-- The initial list of an OWNED channel is lawful (R68). -/
theorem startOwned_lawful {ch : Channel}
    (idle : ch.state ≠ .owned → ch.pending = [] ∧ ch.inFlight = false) : ch.startOwned.Lawful := by
  by_cases owned : ch.state = .owned
  · rw [startOwned_of_owned owned]
    cases level : ch.level <;> simp [Channel.Lawful, owned, target, Level.opposite]
  · rw [startOwned_of_not_owned owned]
    exact lawful_of_not_owned owned (idle owned).1 (idle owned).2

/-! #### All channels -/

namespace State.PendingLaw

variable {s t : State}

theorem of_chans (h : s.PendingLaw) (station : t.station = s.station)
    (lawful : ∀ c, (t.chans.get c).Lawful)
    (owned : ∀ c, (t.chans.get c).state = .owned → (s.chans.get c).state = .owned) : t.PendingLaw :=
  ⟨lawful, fun silent c o => h.2 (station ▸ silent) c (owned c o)⟩

theorem of_same (h : s.PendingLaw) (station : t.station = s.station) (chans : t.chans = s.chans) :
    t.PendingLaw :=
  h.of_chans station (by simpa [chans] using h.1) (by simp [chans])

/-- Channels that only take levels from their sources keep the law. -/
theorem of_moves {moved : Source → Prop} (h : s.PendingLaw) (moves : MovesOnly moved s t)
    (station : t.station = s.station) : t.PendingLaw := by
  refine h.of_chans station (fun c => ?_) fun c => by simp [(moves.keeps c).1]
  obtain ⟨levels, chan, -⟩ := moves.2 c
  rw [chan]
  exact foldl_take_lawful (h.1 c) levels

/-- A station without OWNED channels may be in any state. -/
theorem of_none (h : s.PendingLaw) (none : ∀ c, (s.chans.get c).state ≠ .owned)
    (chans : t.chans = s.chans) : t.PendingLaw := by
  refine ⟨by simpa [chans] using h.1, fun _ c => ?_⟩
  rw [chans]
  exact none c

theorem reset (chans : s.chans = State.reset.chans) : s.PendingLaw :=
  reset_pendingLaw.of_none (fun c => by simp) chans

theorem voided (h : s.PendingLaw) (station : t.station = s.station)
    (chan : ∀ c, t.chans.get c = s.voidChannel c) : t.PendingLaw := by
  refine h.of_chans station (fun c => ?_) (fun c => ?_) <;> rw [chan]
  exacts [voidChannel_lawful (h.1 c), voidChannel_owned]

theorem reportAll (h : s.PendingLaw) (rs : List Report) : (reportAll rs s).PendingLaw :=
  h.of_moves (reportAll_moves rs s) (by simp)

/-! #### Events between deliveries -/

theorem frameBegins (h : s.PendingLaw) : (frameBegins s).PendingLaw := by
  refine h.of_chans (by simp) (fun c => ?_) (fun c => ?_) <;> rw [frameBegins_chan] <;> split
  · next begins => exact (h.1 c).mark begins.2 (by simp)
  · exact h.1 c
  · simp
  · simp

theorem startPatternEnds (h : s.PendingLaw) (run : Nat) (cell : Sample) :
    (startPatternEnds run cell s).PendingLaw := by
  by_cases inStart : s.InStart
  · rw [startPatternEnds_of_inStart run cell inStart]
    split
    · exact frameBegins (h.of_same rfl rfl)
    · exact h.of_same rfl rfl
  · rw [startPatternEnds_of_not_inStart run cell inStart]
    exact h.of_same rfl rfl

theorem stuckExpires (h : s.PendingLaw) : (stuckExpires s).PendingLaw := by
  by_cases due : s.StuckDue
  · by_cases frame : s.lif.line = .frame
    · obtain ⟨rs, n, e, -⟩ := stuckExpires_reports due frame
      rw [e]
      refine (h.voided (by simp) fun c => ?_).reportAll rs
      rw [State.setFreeIndex_chans, State.setLif_chans, withdrawn_chan]
    · rw [stuckExpires_of_due due, if_neg frame]
      exact h.of_moves (.from_eq (reportStuck_moves _) rfl rfl) (by simp)
  · rwa [stuckExpires_of_not_due due]

theorem takeWrite (h : s.PendingLaw) (code : Byte) (rest : List Byte) (stn : BitVec 4)
    (addr : BitVec 2) : (takeWrite code rest stn addr s).PendingLaw := by
  rcases takeWrite_cases code rest stn addr s with ⟨e, -⟩ | ⟨c, act, mem, e⟩
  · rw [e]
    exact reset rfl
  · rw [e]
    exact kept_by_takeRequest (fun _ _ h => h.of_same rfl rfl) (fun _ _ h => h.of_same rfl rfl)
      (fun tag ops s h => h.of_moves (requestActions_moves act mem tag ops s)
        (Prod.mk.inj (requestActions_station act mem tag ops s)).1) c rest h

theorem takeMid (h : s.PendingLaw) (e : MidEvent) : (takeMid e s).PendingLaw := by
  cases e with
  | powerOnReset | pinReset => exact reset rfl
  | startPatternEnd run cell => exact h.startPatternEnds run cell
  | stuckTimerExpiry => exact h.stuckExpires
  | recoveryTimerExpiry =>
    by_cases due : s.RecoveryDue
    · rw [Machine.takeMid, recoveryExpires_of_due due]
      exact h.of_moves (.from_eq (generate_moves _ _) rfl rfl) (by simp)
    · rwa [Machine.takeMid, recoveryExpires_of_not_due due]
  | pinChange i l => exact h.of_moves (pinMoves_moves i l s) (by simp [Machine.takeMid])
  | filterTimerExpiry i => exact h.of_moves (filterExpires_moves i s) (by simp [Machine.takeMid])
  | hostPowerFilterExpiry pin =>
    exact h.of_moves (hostFilterExpires_moves pin s) (by simp [Machine.takeMid])
  | holdTimerExpiry p => exact h.of_moves (holdExpires_moves p s) (by simp [Machine.takeMid])
  | quietTimerExpiry p => exact h.of_moves (quietExpires_moves p s) (by simp [Machine.takeMid])
  | request code w stn addr =>
    simp only [Machine.takeMid, addressed]
    split
    exacts [h.takeWrite code w.rest stn addr, h]
  | responseRead r =>
    simp only [Machine.takeMid, addressed]
    split
    exacts [h.of_same (by simp) (by simp), h]
  | _ => exact h.of_same (by simp [Machine.takeMid]) (by simp [Machine.takeMid])

/-! #### The frame end -/

theorem applied (h : s.PendingLaw) : s.applied.PendingLaw := by
  have framed : s.framed.PendingLaw := by
    refine h.of_chans (by simp) (fun c => ?_) fun c => by simp [framed_state]
    rw [framed_chan]
    split
    exacts [(h.1 c).consume, h.1 c]
  exact (framed.of_moves (applyFrame_moves _) (by simp)).of_same (by simp) (by simp [State.applied])

/-- The census decides claims, which have no list yet, and builds the lists (R28, R68). -/
theorem completeCensus (h : s.PendingLaw) (listen : s.station = .listen) :
    (completeCensus s).PendingLaw := by
  have none := h.2 (by simp [listen, Station.delivers])
  have delivers : (Machine.completeCensus s).station.delivers = true := by
    rw [completeCensus_station, Owner.joins]
    split <;> rfl
  refine ⟨fun c => ?_, fun silent => by simp [delivers] at silent⟩
  obtain ⟨-, idle, -, -⟩ := h.1 c
  obtain ⟨no_list, no_mark⟩ := idle (none c)
  have decided : ((decideClaims s).chans.get c).pending = []
      ∧ ((decideClaims s).chans.get c).inFlight = false := by
    rw [decideClaims_chan]
    split <;> exact ⟨no_list, no_mark⟩
  have reported := reportAll_moves (conflictReports ((conflicting s).map fun c =>
    ((decideClaims s).profile.chans.get c).slot)) (decideClaims s)
  simp only [Machine.completeCensus, leaveListen_chan, learnWithClaims_keeps, reportConflicts_eq]
  refine startOwned_lawful fun other => ?_
  rw [reported.pending (by simpa [reportAll_state] using other), (reported.keeps c).2.2]
  exact decided

theorem censusFrame (h : s.PendingLaw) (listen : s.station = .listen) : (censusFrame s).PendingLaw := by
  have counted : (countCensus s).PendingLaw := h.of_same (by simp) (by simp)
  unfold Machine.censusFrame
  dsimp only
  split
  · exact (counted.completeCensus (by simpa using listen)).of_same (by simp) (by simp)
  · exact counted.of_same (by simp) (by simp)

theorem endVoid (h : s.PendingLaw) : (endVoid s).PendingLaw := by
  obtain ⟨rs, n, e, -⟩ := endVoid_reports s
  rw [e]
  refine (h.voided (by simp [State.voided]) fun c => ?_).reportAll rs
  rw [State.setFreeIndex_chans, voided_chan]

theorem endFrame (h : s.PendingLaw) (check : Sample) (between : List (List MidEvent)) :
    (endFrame check between s).PendingLaw := by
  by_cases atCheck : s.AtCheck
  · by_cases valid : check = .free ∧ s.lif.fault = false
    · obtain ⟨rfl, clean⟩ := valid
      rcases Station.onLine_iff.mp atCheck.1 with listen | station
      · rw [endFrame_of_atCheck .free between atCheck, if_pos ⟨rfl, clean⟩,
          endValid_listen between (by simpa using listen)]
        exact censusFrame (h.of_same (by simp) (by simp)) (by simpa using listen)
      · rw [show Machine.endFrame .free between s = _ from
          Host.Outcome.next.inj (exec_frameEnd_valid atCheck station clean between)]
        exact kept_by_deliverAll (fun e _ h => h.takeMid e)
          (fun tr _ h => h.of_moves (deliver_moves tr _) (by simp)) _ between h.applied
    · rw [endFrame_of_atCheck check between atCheck, if_neg valid]
      exact endVoid (h.of_same (by simp) (by simp))
  · rw [endFrame_of_not_atCheck check between atCheck]
    exact h.of_same (by simp) (by simp)

/-! #### Start-up -/

/-- Channels start without a list, CLAIMING or UNUSED (R24, R59). -/
theorem endLoading (h : s.PendingLaw) (loading : s.station = .loading) {p : Profile}
    {status : ImageStatus} (fallback : status = .fault → p = fallbackProfile) :
    (endLoading p status s).PendingLaw := by
  have none := h.2 (by simp [loading, Station.delivers])
  have start := starting_chan s fallback
  have no_claim_won (c : Fin 16) : ((s.starting p status).chans.get c).state ≠ .owned := by
    rw [start]
    dsimp only
    split <;> simp
  have started : (s.starting p status).PendingLaw := by
    refine ⟨fun c => ?_, fun _ => no_claim_won⟩
    obtain ⟨-, idle, -, -⟩ := h.1 c
    obtain ⟨no_list, no_mark⟩ := idle (none c)
    refine lawful_of_not_owned (no_claim_won c) ?_ ?_ <;> rw [start]
    exacts [no_list, no_mark]
  exact started.of_moves (endLoading_moves p status s) (by simp [endLoading_station])

theorem takeImageByte (h : s.PendingLaw) (b : Byte) : (takeImageByte b s).PendingLaw := by
  rcases takeImageByte_cases b s with ⟨l, e⟩ | ⟨loading, l, p, e, verdict⟩
  · rw [e]
    exact h.of_same rfl rfl
  · rw [e]
    have fallback : l.status = .fault → p = fallbackProfile := by
      rcases verdict with ⟨-, e⟩ | ⟨ok, -⟩
      · exact fun _ => e
      · simp [ok]
    have loaded : (s.setLoader l).PendingLaw := h.of_same rfl rfl
    exact loaded.endLoading loading fallback

theorem resetEnds (h : s.PendingLaw) (stn : BitVec 4) (addr : BitVec 2) :
    (resetEnds stn addr s).PendingLaw := by
  unfold Machine.resetEnds
  split
  · next reset => exact h.of_none (h.2 (by simp [reset, Station.delivers])) (by simp)
  · exact h

end State.PendingLaw

/-- Settles O54: each command keeps the law of the lists, by what it does to the channels. -/
theorem pendingLawKept : Obligations.PendingLawKept := by
  intro s t law hs
  refine kept_by_step (P := State.PendingLaw) (fun _ _ h => h.of_same rfl rfl) ?_ law hs
  exact fun c s t h he => kept_by_exec (P := State.PendingLaw)
    (fun e _ h => h.takeMid e) (fun stn addr _ h => h.resetEnds stn addr)
    (fun b _ h => h.takeImageByte b) (fun _ h => h.of_same (by simp) (by simp))
    (fun x between _ h => h.endFrame x between) h he

end Sys2Proof.Machine

/-! ### Sources and the channels that follow them (R60, R61, R72 to R75, R84)

`SourceMoves` says of two states that one source has moved through some levels, every channel that names it
with it, and nothing else that a channel follows. Each mover of a source is such a step, and each such step
keeps every channel at its source. -/

namespace Sys2Proof.Machine

open Sys2Proof

/-- From `s` to `t` the source `src` moves through the levels, and the channels that name it follow. -/
structure SourceMoves (src : Source) (levels : List Level) (s t : State) : Prop where
  profile : t.profile = s.profile
  level : sourceLevel t src = lastLevel (sourceLevel s src) levels
  still : ∀ other, other ≠ src → sourceLevel t other = sourceLevel s other
  chan : ∀ c, t.chans.get c =
    if (s.profile.chans.get c).source = src then
      (s.chans.get c).following (s.profile.chans.get c).invert (sourceLevel s src) levels
    else s.chans.get c

/-- What the sources stand at (R61). -/
def sourcesView (s : State) : (Fin 12 → Level) × Vector Level 4 × (Fin 8 → Level) × Vector Bool 7 :=
  (fun i => (s.inputs.get i).output, s.soft, fun p => (s.patterns.get p).output, s.conds)

theorem sourceLevel_congr {s t : State} (same : sourcesView t = sourcesView s) (src : Source) :
    sourceLevel t src = sourceLevel s src := by
  simp only [sourcesView, Prod.mk.injEq, funext_iff] at same
  obtain ⟨inputs, soft, patterns, conds⟩ := same
  cases src with
  | input i => exact inputs i
  | soft k => exact congrArg (·.get k) soft
  | pattern p => exact patterns p
  | conditions =>
    have same : anyCond t = anyCond s := by simp only [anyCond, conds]
    rw [sourceLevel_conditions, sourceLevel_conditions, same]
  | unnamed kind index => rfl

/-- An input's record may change so long as its output stands. -/
theorem setInputRec_sources {i : Fin 12} {r : InputRec} {s : State}
    (output : r.output = (s.inputs.get i).output) : sourcesView (setInputRec i r s) = sourcesView s := by
  have outputs (j : Fin 12) : ((put s.inputs i r).get j).output = (s.inputs.get j).output := by
    rw [get_put]
    split
    · next e => rw [output, e]
    · rfl
  simp [sourcesView, setInputRec, outputs]

/-- A pattern's record may change so long as its output stands. -/
theorem setPatterns_sources {p : Fin 8} {r : PatRec} {s : State}
    (output : r.output = (s.patterns.get p).output) :
    sourcesView (s.setPatterns (put s.patterns p r)) = sourcesView s := by
  have outputs (q : Fin 8) : ((put s.patterns p r).get q).output = (s.patterns.get q).output := by
    rw [get_put]
    split
    · next e => rw [output, e]
    · rfl
  simp [sourcesView, outputs]

theorem lastLevel_append (old : Level) (vs ws : List Level) :
    lastLevel old (vs ++ ws) = lastLevel (lastLevel old vs) ws := by
  induction vs generalizing old with
  | nil => rfl
  | cons v vs ih => simp [ih]

namespace SourceMoves

variable {src : Source} {vs ws : List Level} {s t u : State}

theorem idle (profile : t.profile = s.profile) (chans : t.chans = s.chans)
    (sources : sourcesView t = sourcesView s) : SourceMoves src [] s t where
  profile := profile
  level := sourceLevel_congr sources src
  still other _ := sourceLevel_congr sources other
  chan c := by simp [chans]

theorem trans (h : SourceMoves src vs s t) (h' : SourceMoves src ws t u) :
    SourceMoves src (vs ++ ws) s u where
  profile := h'.profile.trans h.profile
  level := by
    rw [h'.level, h.level, lastLevel_append]
  still other ne := (h'.still other ne).trans (h.still other ne)
  chan c := by
    rw [h'.chan, h.chan, h.profile, h.level]
    split
    · rw [Channel.following_append]
    · rfl

/-- A channel that stands at its source still does once a source has moved (R60). -/
theorem follows (h : SourceMoves src vs s t) {c : Fin 16}
    (at_ : (s.chans.get c).level = effectiveLevel s c) : (t.chans.get c).level = effectiveLevel t c := by
  rw [effectiveLevel] at at_ ⊢
  rw [h.chan, h.profile]
  split
  · next named =>
    rw [named] at at_ ⊢
    rw [following_level at_, h.level]
  · next other => rw [h.still _ other, at_]

theorem atSources (h : SourceMoves src vs s t) (at_ : s.AtSources) : t.AtSources :=
  fun c => h.follows (at_ c)

/-- Only the channels of that source have taken levels. -/
theorem movesOnly (h : SourceMoves src vs s t) : MovesOnly (· = src) s t := .of_following h.profile h.chan

end SourceMoves

/-! #### The movers -/

theorem setSoftLevel_soft (k : Fin 4) (v : Level) (s : State) :
    (setSoftLevel k v s).soft = put s.soft k v := by
  by_cases h : s.soft.get k = v
  · have same : put s.soft k v = s.soft := tab_ext fun j => by
      rw [get_put]
      split
      · next e => rw [← e, h]
      · rfl
    simp [setSoftLevel, h, same]
  · simp [setSoftLevel, h]

theorem setSoftLevel_sourceMoves (k : Fin 4) (v : Level) (s : State) :
    SourceMoves (.soft k) [v] s (setSoftLevel k v s) where
  profile := by simp
  level := by simp [sourceLevel, setSoftLevel_soft]
  still other ne := by
    cases other with
    | soft j =>
      have ne : k ≠ j := fun e => ne (congrArg Source.soft e.symm)
      simp [sourceLevel, setSoftLevel_soft, get_put, ne]
    | _ => simp [sourceLevel, anyCond]
  chan := setSoftLevel_chan k v s

theorem setInputOutput_sourceMoves (i : Fin 12) (v : Level) (s : State) :
    SourceMoves (.input i) [v] s (setInputOutput i v s) where
  profile := by simp
  level := by simp [sourceLevel, setInputOutput_input]
  still other ne := by
    cases other with
    | input j =>
      have ne : j ≠ i := fun e => ne (congrArg Source.input e)
      simp [sourceLevel, setInputOutput_input, ne]
    | _ => simp [sourceLevel, anyCond]
  chan := setInputOutput_chan i v s

theorem setPatternOutput_sourceMoves (p : Fin 8) (v : Level) (s : State) :
    SourceMoves (.pattern p) [v] s (setPatternOutput p v s) where
  profile := by simp
  level := by simp [sourceLevel, setPatternOutput_pattern]
  still other ne := by
    cases other with
    | pattern q =>
      have ne : q ≠ p := fun e => ne (congrArg Source.pattern e)
      simp [sourceLevel, setPatternOutput_pattern, ne]
    | _ => simp [sourceLevel, anyCond]
  chan := setPatternOutput_chan p v s

/-- An activation moves the input's output as its mode says (R81 to R83). -/
theorem modeActivation_sourceMoves (i : Fin 12) (s : State) :
    SourceMoves (.input i)
      (modeLevels (s.profile.inputs.get i).mode .asserted (s.inputs.get i).output) s
      (modeActivation i s) := by
  unfold modeActivation
  cases (s.profile.inputs.get i).mode with
  | follow => exact setInputOutput_sourceMoves i _ s
  | toggle =>
    dsimp only [modeLevels]
    rw [← opposite_eq_ite]
    exact setInputOutput_sourceMoves i _ s
  | oneshot => exact (setInputOutput_sourceMoves i _ s).trans (setInputOutput_sourceMoves i _ _)

theorem modeDeactivation_sourceMoves (i : Fin 12) (s : State) :
    SourceMoves (.input i)
      (modeLevels (s.profile.inputs.get i).mode .released (s.inputs.get i).output) s
      (modeDeactivation i s) := by
  unfold modeDeactivation
  cases (s.profile.inputs.get i).mode with
  | follow => exact setInputOutput_sourceMoves i _ s
  | toggle | oneshot => exact .idle rfl rfl rfl

/-- The levels that input `i`'s output moves through when its filtered level takes the raw sample's value:
none without a change (R80 to R83). -/
def State.filterLevels (s : State) (i : Fin 12) : List Level :=
  if (s.inputs.get i).raw.level = (s.inputs.get i).filtered then []
  else modeLevels (s.profile.inputs.get i).mode (s.inputs.get i).raw.level (s.inputs.get i).output

/-- Input `i` with its filter passed, before the mode acts (R80). -/
def State.filterPassed (s : State) (i : Fin 12) : State :=
  setInputRec i { s.inputs.get i with timer := .stopped, filtered := (s.inputs.get i).raw.level } s

theorem filterPassed_input (s : State) (i j : Fin 12) :
    (s.filterPassed i).inputs.get j =
      if j = i then
        { s.inputs.get i with timer := .stopped, filtered := (s.inputs.get i).raw.level }
      else s.inputs.get j := by
  simp [State.filterPassed, setInputRec, get_put, eq_comm]

/-- What a passed filter does, by the change of the filtered level (R80). -/
theorem filterTakes_cases (i : Fin 12) (s : State) :
    (s.inputs.get i).filtered = .released ∧ (s.inputs.get i).raw.level = .asserted
        ∧ filterTakes i s = modeActivation i (s.filterPassed i)
      ∨ (s.inputs.get i).filtered = .asserted ∧ (s.inputs.get i).raw.level = .released
        ∧ filterTakes i s = modeDeactivation i (s.filterPassed i)
      ∨ (s.inputs.get i).raw.level = (s.inputs.get i).filtered ∧ filterTakes i s = s.filterPassed i := by
  cases old : (s.inputs.get i).filtered <;> cases new : (s.inputs.get i).raw.level <;>
    simp [filterTakes, State.filterPassed, old, new]

theorem filterTakes_sourceMoves (i : Fin 12) (s : State) :
    SourceMoves (.input i) (s.filterLevels i) s (filterTakes i s) := by
  have passed : SourceMoves (.input i) [] s (s.filterPassed i) :=
    .idle rfl rfl (setInputRec_sources rfl)
  have profile : (s.filterPassed i).profile = s.profile := rfl
  have output : ((s.filterPassed i).inputs.get i).output = (s.inputs.get i).output := by
    simp [filterPassed_input]
  rcases filterTakes_cases i s with ⟨old, new, e⟩ | ⟨old, new, e⟩ | ⟨same, e⟩ <;> rw [e]
  · have moves := passed.trans (modeActivation_sourceMoves i _)
    rw [profile, output] at moves
    simpa [State.filterLevels, old, new] using moves
  · have moves := passed.trans (modeDeactivation_sourceMoves i _)
    rw [profile, output] at moves
    simpa [State.filterLevels, old, new] using moves
  · simpa [State.filterLevels, same] using passed

theorem dropMainInput_sourceMoves (i : Fin 12) (s : State) :
    SourceMoves (.input i) [.released] s (dropMainInput i s) := by
  have dropped : SourceMoves (.input i) [] s (setInputRec i
      { s.inputs.get i with raw := .notSampled, timer := .stopped, filtered := .released } s) :=
    .idle rfl rfl (setInputRec_sources rfl)
  exact dropped.trans (setInputOutput_sourceMoves i _ _)

/-- The levels that input `i`'s output moves through at a first sample: an active input whose filter time is
0 is activated at once (R78, R88). -/
def State.firstLevels (s : State) (i : Fin 12) : List Level :=
  if pinSample s i = .active ∧ (s.profile.inputs.get i).filterMs = 0 then
    modeLevels (s.profile.inputs.get i).mode .asserted (s.inputs.get i).output
  else []

theorem firstSample_sourceMoves (i : Fin 12) (s : State) :
    SourceMoves (.input i) (s.firstLevels i) s (firstSample i s) := by
  rw [firstSample_eq, State.firstLevels]
  split
  · have passed : SourceMoves (.input i) [] s (setInputRec i
        { raw := .active, timer := .stopped, filtered := .asserted
          output := (s.inputs.get i).output } s) := .idle rfl rfl (setInputRec_sources rfl)
    have moves := passed.trans (modeActivation_sourceMoves i _)
    simpa [setInputRec] using moves
  · next waits => exact .idle rfl rfl (setInputRec_sources (if_neg waits))

/-- The action of a completing pattern moves its output (R110). -/
theorem performAction_sourceMoves (p : Fin 8) (s : State) :
    SourceMoves (.pattern p)
      (actionLevels (s.profile.patterns.get p).action (s.patterns.get p).output) s
      (performAction p s) := by
  unfold performAction
  cases (s.profile.patterns.get p).action with
  | none => exact .idle rfl rfl rfl
  | pulse => exact (setPatternOutput_sourceMoves p _ s).trans (setPatternOutput_sourceMoves p _ _)
  | toggle =>
    dsimp only [actionLevels]
    rw [← opposite_eq_ite]
    exact setPatternOutput_sourceMoves p _ s
  | set => exact setPatternOutput_sourceMoves p _ s

/-- ACK_PATTERNS releases the output of a SET pattern, and no other (R112). -/
theorem ackPattern_sourceMoves (p : Fin 8) (s : State) :
    SourceMoves (.pattern p) (if (s.profile.patterns.get p).action = .set then [.released] else []) s
      (ackPattern p s) := by
  have cleared : SourceMoves (.pattern p) [] s
      (s.setPatterns (put s.patterns p { s.patterns.get p with latch := false })) :=
    .idle rfl rfl (setPatterns_sources rfl)
  unfold ackPattern
  dsimp only
  split
  exacts [cleared.trans (setPatternOutput_sourceMoves p _ _), cleared]

theorem clearConds_conds (mask : Vector Bool 7) (s : State) (c : Fin 7) :
    (clearConds mask s).conds.get c =
      (s.conds.get c && (!mask.get c || (decide (c = condLineStuck) && stuckHeld s))) := by
  unfold clearConds
  dsimp only
  split <;> simp

/-- The last latch cleared moves the CONDITIONS source to RELEASED (R74, R120). -/
theorem clearConds_sourceMoves (mask : Vector Bool 7) (s : State) :
    SourceMoves .conditions (if anyCond (clearConds mask s) then [] else [.released]) s
      (clearConds mask s) where
  profile := by simp
  level := by
    have only_clears : anyCond (clearConds mask s) = true → anyCond s = true := by
      simp only [anyCond_iff, clearConds_conds, Bool.and_eq_true]
      exact fun ⟨c, set, _⟩ => ⟨c, set⟩
    rw [sourceLevel_conditions, sourceLevel_conditions]
    cases left : anyCond (clearConds mask s) with
    | true => simp [only_clears left]
    | false => simp
  still other ne := by
    cases other with
    | conditions => exact absurd rfl ne
    | _ => simp [sourceLevel]
  chan c := by
    rw [clearConds_chan, State.conditionsMove]
    cases left : anyCond (clearConds mask s) with
    | true => simp
    | false =>
      cases was : anyCond s with
      | true => simp
      | false => simp [sourceLevel_conditions, was]

end Sys2Proof.Machine

/-! ### Every step keeps each channel at its source (R60, R61, R72, R74, R75, R84)

Off the line nothing is claimed; on the line every command is made of moves of sources and of changes that
touch neither a source nor a channel's level. -/

namespace Sys2Proof.Machine

open Sys2Proof

/-- What `AtSources` reads. -/
def followView (s : State) : Profile × (Fin 16 → Level) ×
    (Fin 12 → Level) × Vector Level 4 × (Fin 8 → Level) × Vector Bool 7 :=
  (s.profile, fun c => (s.chans.get c).level, sourcesView s)

theorem followView_eq {s t : State} : followView t = followView s ↔
    t.profile = s.profile ∧ (∀ c, (t.chans.get c).level = (s.chans.get c).level)
      ∧ sourcesView t = sourcesView s := by
  simp only [followView, Prod.mk.injEq, funext_iff]

namespace State.AtSources

variable {s t : State}

theorem of_view (h : s.AtSources) (same : followView t = followView s) : t.AtSources := by
  obtain ⟨profile, level, sources⟩ := followView_eq.mp same
  intro c
  rw [effectiveLevel, level, profile, sourceLevel_congr sources]
  exact h c

theorem putPattern (h : s.AtSources) {p : Fin 8} {r : PatRec}
    (output : r.output = (s.patterns.get p).output) :
    (s.setPatterns (put s.patterns p r)).AtSources :=
  h.of_view (followView_eq.mpr ⟨rfl, fun _ => rfl, setPatterns_sources output⟩)

theorem foldl {α : Type} {f : State → α → State} (each : ∀ s a, s.AtSources → (f s a).AtSources)
    (l : List α) (h : s.AtSources) : (l.foldl f s).AtSources := by
  induction l generalizing s with
  | nil => exact h
  | cons a l ih => exact ih (each s a h)

/-! #### Input conditioning -/

theorem takeSample (h : s.AtSources) (i : Fin 12) (raw : RawSample) : (takeSample i raw s).AtSources := by
  unfold Machine.takeSample
  dsimp only
  (repeat' split)
  · exact h.setInputRec rfl
  · have sampled : (Machine.setInputRec i { s.inputs.get i with raw := raw } s).AtSources :=
      h.setInputRec rfl
    exact (filterTakes_sourceMoves i _).atSources sampled
  · exact h.setInputRec rfl

theorem onMain {f : Fin 12 → State → State} (each : ∀ i s, s.AtSources → (f i s).AtSources)
    (h : s.AtSources) : (onMain f s).AtSources :=
  foldl (fun s i h => by split; exacts [each i s h, h]) _ h

theorem hostPowerChanged (h : s.AtSources) (before : HostPower) : (hostPowerChanged before s).AtSources := by
  unfold Machine.hostPowerChanged
  (repeat' split)
  · exact onMain (fun i s h => (dropMainInput_sourceMoves i s).atSources h) h
  · exact onMain (fun i _ h => h.firstSample i) h
  all_goals exact h

theorem pinMoves (h : s.AtSources) (i : Fin 12) (l : PinLevel) : (pinMoves i l s).AtSources := by
  have recorded : (s.setPins { s.pins with inputs := put s.pins.inputs i l }).AtSources := h.of_view rfl
  unfold Machine.pinMoves
  dsimp only
  split
  exacts [recorded.takeSample i _, recorded]

theorem filterExpires (h : s.AtSources) (i : Fin 12) : (filterExpires i s).AtSources := by
  unfold Machine.filterExpires
  split
  exacts [(filterTakes_sourceMoves i s).atSources h, h]

theorem hostFilterExpires (h : s.AtSources) (pin : HostPin) : (hostFilterExpires pin s).AtSources := by
  have decoded : (s.setHost (s.host.take pin (s.pins.hostPin pin))).AtSources := h.of_view rfl
  unfold Machine.hostFilterExpires
  split
  exacts [decoded.hostPowerChanged _, h]

/-! #### The pattern unit -/

theorem advance (h : s.AtSources) (p : Fin 8) (stamp : Option (BitVec 16)) : (advance p stamp s).AtSources := by
  have latched : (setMatchLatch p s).AtSources := h.putPattern rfl
  have recorded : (matchRecord p stamp (setMatchLatch p s)).AtSources := by
    unfold matchRecord
    split
    exacts [latched.generate _, latched]
  have acted := (performAction_sourceMoves p _).atSources recorded
  unfold Machine.advance
  split
  exacts [h.putPattern rfl, acted.putPattern rfl]

theorem retry (h : s.AtSources) (p : Fin 8) (tr : Transition) : (retry p tr s).AtSources := by
  unfold Machine.retry
  (repeat' split)
  exacts [h.putPattern rfl, h.putPattern rfl, h, h, h.putPattern rfl, h, h]

theorem patternTake (h : s.AtSources) (p : Fin 8) (tr : Transition) : (patternTake p tr s).AtSources := by
  have reset : (resetProgress p s).AtSources := h.putPattern rfl
  unfold Machine.patternTake
  dsimp only
  split
  · exact h
  · split
    exacts [h, h.advance p _, h.putPattern rfl, h.putPattern rfl, reset.retry p tr]

theorem deliver (h : s.AtSources) (tr : Transition) : (deliver tr s).AtSources := by
  have latched : (latchStep tr s).AtSources := h.of_view (by simp [followView, sourcesView])
  have recorded : (journalStep tr (latchStep tr s)).AtSources := by
    unfold journalStep
    split
    exacts [latched.generate _, latched]
  exact foldl (fun _ p h => h.patternTake p tr) _ recorded

theorem holdExpires (h : s.AtSources) (p : Fin 8) : (holdExpires p s).AtSources := by
  unfold Machine.holdExpires
  (repeat' split)
  exacts [h.advance p none, h.putPattern rfl, h, h]

theorem quietExpires (h : s.AtSources) (p : Fin 8) : (quietExpires p s).AtSources := by
  unfold Machine.quietExpires
  (repeat' split)
  exacts [h.advance p none, h, h]

theorem windowExpires (h : s.AtSources) (p : Fin 8) : (windowExpires p s).AtSources := by
  unfold Machine.windowExpires
  split
  exacts [h.putPattern rfl, h]

/-! #### Requests -/

theorem requestAction (h : s.AtSources) :
    ∀ act ∈ requestActions, ∀ tag ops, (act tag ops s).AtSources := by
  have answered {s : State} (h : s.AtSources) (tag : Byte) (data : List Byte) :
      (answer tag data s).AtSources := h.of_view rfl
  have soft {s : State} (h : s.AtSources) (k : Fin 4) (v : Level) : (setSoftLevel k v s).AtSources :=
    (setSoftLevel_sourceMoves k v s).atSources h
  intro act mem tag ops
  simp only [requestActions, List.mem_cons, List.not_mem_nil, or_false] at mem
  rcases mem with rfl | rfl | rfl | rfl | rfl | rfl | rfl | rfl | rfl | rfl | rfl
  case inr.inr.inr.inr.inr.inr.inl =>
    exact answered ((clearConds_sourceMoves _ s).atSources h) _ _
  case inr.inr.inr.inr.inr.inr.inr.inl =>
    refine answered (foldl (fun s p h => ?_) _ h) _ _
    split
    exacts [(ackPattern_sourceMoves p s).atSources h, h]
  case inr.inr.inr.inr.inr.inr.inr.inr.inl => exact answered (soft h _ _) _ _
  case inr.inr.inr.inr.inr.inr.inr.inr.inr.inl => exact answered (soft (soft h _ _) _ _) _ _
  all_goals exact h.of_view (by simp [followView, sourcesView])

/-! #### The line -/

theorem reportAll (h : s.AtSources) (rs : List Report) : (reportAll rs s).AtSources :=
  foldl (fun _ r h => match r with
    | .latch c => h.setCond c
    | .record body => h.generate body) rs h

theorem startPatternEnds (h : s.AtSources) (run : Nat) (cell : Sample) :
    (startPatternEnds run cell s).AtSources := by
  have begins {s : State} (h : s.AtSources) : (frameBegins s).AtSources := by
    refine h.of_view (followView_eq.mpr ⟨by simp, fun c => ?_, by simp [sourcesView]⟩)
    rw [frameBegins_chan]
    split <;> rfl
  by_cases inStart : s.InStart
  · rw [startPatternEnds_of_inStart run cell inStart]
    split
    · exact begins (h.of_view rfl)
    · exact h.of_view rfl
  · rw [startPatternEnds_of_not_inStart run cell inStart]
    exact h.of_view rfl

/-- Withdrawals touch no channel's level. -/
theorem voided (h : s.AtSources) (profile : t.profile = s.profile)
    (chan : ∀ c, t.chans.get c = s.voidChannel c) (sources : sourcesView t = sourcesView s) :
    t.AtSources := by
  refine h.of_view (followView_eq.mpr ⟨profile, fun c => ?_, sources⟩)
  rw [chan, State.voidChannel]
  (repeat' split) <;> rfl

theorem stuckExpires (h : s.AtSources) : (stuckExpires s).AtSources := by
  by_cases due : s.StuckDue
  · by_cases frame : s.lif.line = .frame
    · obtain ⟨rs, n, e, -⟩ := stuckExpires_reports due frame
      rw [e]
      refine (h.voided (by simp) (fun c => ?_) (by simp [sourcesView])).reportAll rs
      rw [State.setFreeIndex_chans, State.setLif_chans, withdrawn_chan]
    · rw [stuckExpires_of_due due, if_neg frame, reportStuck_eq]
      have entered : (s.setLif s.lif.enterStuck).AtSources := h.of_view rfl
      exact entered.reportAll _
  · rwa [stuckExpires_of_not_due due]

theorem endVoid (h : s.AtSources) : (endVoid s).AtSources := by
  obtain ⟨rs, n, e, -⟩ := endVoid_reports s
  rw [e]
  refine (h.voided (by simp [State.voided]) (fun c => ?_) (by simp [State.voided, sourcesView])).reportAll rs
  rw [State.setFreeIndex_chans, voided_chan]

theorem applied (h : s.AtSources) : s.applied.AtSources := by
  have framed : s.framed.AtSources := by
    refine h.of_view (followView_eq.mpr ⟨by simp, fun c => ?_, by simp [sourcesView]⟩)
    rw [framed_chan, consume_eq]
    (repeat' split) <;> rfl
  have tabled : (s.framed.setSlots (appliedSlots s.framed)).AtSources :=
    framed.of_view (by simp [followView, sourcesView])
  have frame : (applyFrame s.framed).AtSources := by
    rw [applyFrame_eq]
    exact tabled.reportAll _
  exact frame.of_view (by simp [State.applied, followView, sourcesView])

/-- The step out of LISTEN builds lists and arms patterns, and moves no level (R68, R96). -/
theorem leaveListen (h : s.AtSources) : (leaveListen s).AtSources := by
  have armed (p : Fin 8) : (s.armedPattern p (s.patterns.get p)).output = (s.patterns.get p).output := by
    unfold State.armedPattern
    split <;> rfl
  refine h.of_view (followView_eq.mpr ⟨by simp, fun c => ?_, ?_⟩)
  · rw [leaveListen_chan, startOwned_level]
  · simp [sourcesView, leaveListen_pattern, armed]

theorem completeCensus (h : s.AtSources) : (completeCensus s).AtSources := by
  have decided : (decideClaims s).AtSources := by
    refine h.of_view (followView_eq.mpr ⟨by simp, fun c => ?_, by simp [sourcesView]⟩)
    rw [decideClaims_chan]
    split <;> rfl
  have reported : (reportConflicts (conflicting s) (decideClaims s)).AtSources := by
    rw [reportConflicts_eq]
    exact decided.reportAll _
  have learnt : (learnWithClaims (reportConflicts (conflicting s) (decideClaims s))).AtSources :=
    reported.of_view (by simp [followView, sourcesView])
  exact learnt.leaveListen

theorem censusFrame (h : s.AtSources) : (censusFrame s).AtSources := by
  have counted : (countCensus s).AtSources := h.of_view (by simp [followView, sourcesView])
  unfold Machine.censusFrame
  dsimp only
  split
  · exact counted.completeCensus.of_view (by simp [followView, sourcesView])
  · exact counted.of_view (by simp [followView, sourcesView])

end State.AtSources

/-! #### On the line -/

namespace State.ChannelsFollowSources

variable {s t : State}

theorem of_atSources (h : s.ChannelsFollowSources) (station : t.station = s.station)
    (keeps : s.AtSources → t.AtSources) : t.ChannelsFollowSources :=
  fun on => keeps (h (station ▸ on))

theorem of_view (h : s.ChannelsFollowSources) (station : t.station = s.station)
    (same : followView t = followView s) : t.ChannelsFollowSources :=
  h.of_atSources station fun at_ => at_.of_view same

/-- Off the line nothing is claimed. -/
theorem of_offLine (off : t.station.onLine = false) : t.ChannelsFollowSources :=
  fun on => by simp [off] at on

theorem takeWrite (h : s.ChannelsFollowSources) (code : Byte) (rest : List Byte) (stn : BitVec 4)
    (addr : BitVec 2) : (takeWrite code rest stn addr s).ChannelsFollowSources := by
  rcases takeWrite_cases code rest stn addr s with ⟨e, -⟩ | ⟨c, act, mem, e⟩
  · rw [e]
    exact of_offLine rfl
  · rw [e]
    exact kept_by_takeRequest (fun _ _ h => h.of_view rfl rfl) (fun _ _ h => h.of_view rfl rfl)
      (fun tag ops s h => h.of_atSources (Prod.mk.inj (requestActions_station act mem tag ops s)).1
        fun at_ => at_.requestAction act mem tag ops) c rest h

theorem takeMid (h : s.ChannelsFollowSources) (e : MidEvent) : (takeMid e s).ChannelsFollowSources := by
  cases e with
  | powerOnReset | pinReset => exact of_offLine rfl
  | startPatternEnd run cell =>
    exact h.of_atSources (by simp [Machine.takeMid]) fun at_ => at_.startPatternEnds run cell
  | stuckTimerExpiry => exact h.of_atSources (by simp [Machine.takeMid]) fun at_ => at_.stuckExpires
  | recoveryTimerExpiry =>
    by_cases due : s.RecoveryDue
    · have idle : (s.setLif { s.lif with line := .idle, recoveryTimer := .stopped }).ChannelsFollowSources :=
        h.of_view rfl rfl
      rw [Machine.takeMid, recoveryExpires_of_due due]
      exact idle.of_atSources (by simp) fun at_ => at_.generate _
    · rwa [Machine.takeMid, recoveryExpires_of_not_due due]
  | pinChange i l => exact h.of_atSources (by simp [Machine.takeMid]) fun at_ => at_.pinMoves i l
  | filterTimerExpiry i => exact h.of_atSources (by simp [Machine.takeMid]) fun at_ => at_.filterExpires i
  | hostPowerFilterExpiry pin =>
    exact h.of_atSources (by simp [Machine.takeMid]) fun at_ => at_.hostFilterExpires pin
  | windowTimerExpiry p => exact h.of_atSources (by simp [Machine.takeMid]) fun at_ => at_.windowExpires p
  | holdTimerExpiry p => exact h.of_atSources (by simp [Machine.takeMid]) fun at_ => at_.holdExpires p
  | quietTimerExpiry p => exact h.of_atSources (by simp [Machine.takeMid]) fun at_ => at_.quietExpires p
  | request code w stn addr =>
    simp only [Machine.takeMid, addressed]
    split
    exacts [h.takeWrite code w.rest stn addr, h]
  | responseRead r =>
    simp only [Machine.takeMid, addressed]
    split
    exacts [h.of_view (by simp) (by simp [followView, sourcesView]), h]
  | _ => exact h.of_view (by simp [Machine.takeMid]) (by simp [Machine.takeMid, followView, sourcesView])

theorem endFrame (h : s.ChannelsFollowSources) (check : Sample) (between : List (List MidEvent)) :
    (endFrame check between s).ChannelsFollowSources := by
  by_cases atCheck : s.AtCheck
  · have at_ : s.AtSources := h atCheck.1
    have checked : (s.checked check).AtSources := at_.of_view (by simp [followView, sourcesView])
    by_cases valid : check = .free ∧ s.lif.fault = false
    · obtain ⟨rfl, clean⟩ := valid
      rcases Station.onLine_iff.mp atCheck.1 with listen | station
      · rw [endFrame_of_atCheck .free between atCheck, if_pos ⟨rfl, clean⟩,
          endValid_listen between (by simpa using listen)]
        have counted : (countValid (s.checked .free)).AtSources :=
          checked.of_view (by simp [followView, sourcesView])
        exact fun _ => counted.censusFrame
      · rw [show Machine.endFrame .free between s = _ from
          Host.Outcome.next.inj (exec_frameEnd_valid atCheck station clean between)]
        exact kept_by_deliverAll (fun e _ h => h.takeMid e)
          (fun tr _ h => h.of_atSources (by simp) fun at_ => at_.deliver tr) _ between
          fun _ => at_.applied
    · rw [endFrame_of_atCheck check between atCheck, if_neg valid]
      exact fun _ => checked.endVoid
  · rw [endFrame_of_not_atCheck check between atCheck]
    exact h.of_view (by simp) (by simp [followView, sourcesView])

theorem takeImageByte (h : s.ChannelsFollowSources) (b : Byte) :
    (takeImageByte b s).ChannelsFollowSources := by
  rcases takeImageByte_cases b s with ⟨l, e⟩ | ⟨-, l, p, e, -⟩
  · rw [e]
    exact h.of_view rfl rfl
  · rw [e]
    exact fun _ => endLoading_atSources p l.status (s.setLoader l)

theorem resetEnds (h : s.ChannelsFollowSources) (stn : BitVec 4) (addr : BitVec 2) :
    (resetEnds stn addr s).ChannelsFollowSources := by
  unfold Machine.resetEnds
  split
  exacts [of_offLine rfl, h]

end State.ChannelsFollowSources

/-- Settles O55: each command moves sources with their channels, or comes on the line with every channel at
its source. -/
theorem sourcesFollowed : Obligations.SourcesFollowed := by
  intro s t law hs
  refine kept_by_step (P := State.ChannelsFollowSources) (fun _ _ h => h.of_view rfl rfl) ?_ law hs
  exact fun c s t h he => kept_by_exec (P := State.ChannelsFollowSources)
    (fun e _ h => h.takeMid e) (fun stn addr _ h => h.resetEnds stn addr)
    (fun b _ h => h.takeImageByte b)
    (fun _ h => h.of_view (by simp) (by simp [followView, sourcesView]))
    (fun x between _ h => h.endFrame x between) h he

end Sys2Proof.Machine

/-! ### Inputs and host power (R60, R61, R78 to R90)

What a passed filter, a first sample and the entry to OFF leave of an input's record; what they do to the
channels is said by the moves of the input's output. -/

namespace Sys2Proof.Machine

open Sys2Proof

/-- A pulse of a source into the empty list of an OWNED channel at rest (R61, R62). -/
theorem following_pulse {ch : Channel} {invert : Bool} (owned : ch.state = .owned) (empty : ch.pending = [])
    (level : ch.level = Level.released.through invert) (sent : ch.sent = Level.released.through invert) :
    (ch.following invert .released [.asserted, .released]).pending =
      [(Level.released.through invert).opposite, Level.released.through invert] := by
  cases invert <;>
    simp [Channel.take, owned, empty, level, sent, pendingAfter, target, Level.through, Level.opposite]

/-- A pulse leaves its two levels to be sent (R15, R61). -/
theorem pulse_to_send {ch : Channel} {invert : Bool} {t : State} {c : Fin 16}
    (chan : t.chans.get c = ch.following invert .released [.asserted, .released])
    (owned : ch.state = .owned) (empty : ch.pending = [])
    (level : ch.level = Level.released.through invert) (sent : ch.sent = Level.released.through invert) :
    (t.chans.get c).pending = [(Level.released.through invert).opposite, Level.released.through invert]
      ∧ transmit t = true := by
  have pending := (congrArg Channel.pending chan).trans (following_pulse owned empty level sent)
  exact ⟨pending, (transmit_iff t).mpr ⟨c, by simpa [chan] using owned, by simp [pending]⟩⟩

/-! #### Filters (R79 to R84) -/

theorem rawLevel_eq_ite (raw : RawSample) :
    raw.level = if raw = .active then .asserted else .released := by
  cases raw <;> rfl

theorem modeDeactivation_input (i j : Fin 12) (s : State) :
    (modeDeactivation i s).inputs.get j =
      if j = i then
        { s.inputs.get i with
          output := lastLevel (s.inputs.get i).output
            (modeLevels (s.profile.inputs.get i).mode .released (s.inputs.get i).output) }
      else s.inputs.get j := by
  unfold modeDeactivation
  cases (s.profile.inputs.get i).mode with
  | follow => simp [setInputOutput_input, modeLevels]
  | toggle | oneshot => by_cases e : j = i <;> simp [modeLevels, e]

/-- An input's record once its filter has passed and the mode has acted (R80 to R83). -/
def State.filterRec (s : State) (i : Fin 12) : InputRec where
  raw := (s.inputs.get i).raw
  timer := .stopped
  filtered := (s.inputs.get i).raw.level
  output := lastLevel (s.inputs.get i).output (s.filterLevels i)

theorem filterTakes_inputs (i : Fin 12) (s : State) :
    (filterTakes i s).inputs = put s.inputs i (s.filterRec i) := by
  have profile : (s.filterPassed i).profile = s.profile := rfl
  refine tab_ext fun j => ?_
  by_cases here : i = j
  · subst here
    rcases filterTakes_cases i s with ⟨old, new, e⟩ | ⟨old, new, e⟩ | ⟨same, e⟩ <;> rw [e]
    · simp [modeActivation_input, filterPassed_input, State.filterRec, State.filterLevels, old, new, profile]
    · simp [modeDeactivation_input, filterPassed_input, State.filterRec, State.filterLevels, old, new,
        profile]
    · simp [filterPassed_input, State.filterRec, State.filterLevels, same]
  · rcases filterTakes_cases i s with ⟨-, -, e⟩ | ⟨-, -, e⟩ | ⟨-, e⟩ <;>
      simp [e, modeActivation_input, modeDeactivation_input, filterPassed_input, get_put, here, Ne.symm here]

/-- Settles O32: the filter passes, and the input's output moves as its mode says. -/
theorem filterExpiry : Obligations.FilterExpiry := by
  intro s i ms on runs
  dsimp only
  rw [← rawLevel_eq_ite]
  have moves : SourceMoves (.input i) (s.filterLevels i) s (filterTakes i s) := filterTakes_sourceMoves i s
  refine ⟨filterTakes i s, congrArg Host.Outcome.next (if_pos (by simp [on, runs, Timer.isRunning])),
    filterTakes_inputs i s, moves.chan, fun c named oneshot now old out owned empty level sent => ?_,
    fun c _ at_ => moves.follows at_, ?_⟩
  · have pulse : s.filterLevels i = [.asserted, .released] := by
      simp [State.filterLevels, now, old, oneshot, modeLevels]
    have chan := (moves.chan c).trans (if_pos named)
    rw [pulse, sourceLevel, out] at chan
    exact pulse_to_send chan owned empty level sent
  · apply State.ext_fields <;> simp

/-! #### Pin changes (R79, R87) -/

theorem inputRead_iff (s : State) (i : Fin 12) :
    inputRead s i = true ↔
      s.station.onLine = true ∧ ((s.profile.inputs.get i).domain = .standby ∨ hostPower s ≠ .off) := by
  simp [inputRead]

/-- The outside moves input `i`'s pin to level `l`. -/
def State.pinAt (s : State) (i : Fin 12) (l : PinLevel) : State :=
  s.setPins { s.pins with inputs := put s.pins.inputs i l }

theorem pinMoves_of_unread {s : State} {i : Fin 12} {l : PinLevel}
    (h : inputRead s i = false ∨ s.pins.inputs.get i = l) : pinMoves i l s = s.pinAt i l := by
  refine if_neg ?_
  rcases h with h | h <;> simp [h]

theorem pinMoves_of_read {s : State} {i : Fin 12} {l : PinLevel} (read : inputRead s i = true)
    (new : s.pins.inputs.get i ≠ l) :
    pinMoves i l s = takeSample i (rawOf (s.profile.inputs.get i).polarity l) (s.pinAt i l) := by
  have sample : pinSample (s.pinAt i l) i = rawOf (s.profile.inputs.get i).polarity l := by
    simp [pinSample, State.pinAt]
  rw [← sample]
  exact if_pos (by simp [read, new])

theorem takeSample_of_same {i : Fin 12} {raw : RawSample} {s : State}
    (same : raw.level = (s.inputs.get i).filtered) :
    takeSample i raw s = setInputRec i { s.inputs.get i with raw := raw, timer := .stopped } s :=
  if_pos same

theorem takeSample_of_filter {i : Fin 12} {raw : RawSample} {s : State}
    (new : raw.level ≠ (s.inputs.get i).filtered) (slow : (s.profile.inputs.get i).filterMs ≠ 0) :
    takeSample i raw s =
      setInputRec i
        { s.inputs.get i with raw := raw, timer := .running (s.profile.inputs.get i).filterMs } s :=
  (if_neg new).trans (if_neg slow)

theorem takeSample_of_no_filter {i : Fin 12} {raw : RawSample} {s : State}
    (new : raw.level ≠ (s.inputs.get i).filtered) (fast : (s.profile.inputs.get i).filterMs = 0) :
    takeSample i raw s = filterTakes i (setInputRec i { s.inputs.get i with raw := raw } s) :=
  (if_neg new).trans (if_pos fast)

/-- Input `i` with its pin moved and its raw sample taken, before its filter is asked. -/
def State.resampled (s : State) (i : Fin 12) (l : PinLevel) : State :=
  setInputRec i { s.inputs.get i with raw := rawOf (s.profile.inputs.get i).polarity l } (s.pinAt i l)

theorem resampled_input (s : State) (i : Fin 12) (l : PinLevel) :
    (s.resampled i l).inputs.get i =
      { s.inputs.get i with raw := rawOf (s.profile.inputs.get i).polarity l } := by
  simp [State.resampled, setInputRec]

/-- Settles O31: by whether the input is read, what its new sample is, and whether it has a filter. -/
theorem pinChange : Obligations.PinChange := by
  intro s i l
  dsimp only
  rw [← rawLevel_eq_ite]
  refine ⟨fun unread => ?_, fun read new same => ?_, fun read new changed slow => ?_,
    fun read new changed fast => ?_⟩
  · refine congrArg Host.Outcome.next (pinMoves_of_unread (unread.imp_left fun h => ?_))
    rwa [← inputRead_iff, Bool.not_eq_true] at h
  · have moved := pinMoves_of_read ((inputRead_iff s i).mpr read) new
    exact congrArg Host.Outcome.next (moved.trans (takeSample_of_same (s := s.pinAt i l) same))
  · have moved := pinMoves_of_read ((inputRead_iff s i).mpr read) new
    exact congrArg Host.Outcome.next (moved.trans (takeSample_of_filter (s := s.pinAt i l) changed slow))
  · have record := resampled_input s i l
    have levels : (s.resampled i l).filterLevels i = modeLevels (s.profile.inputs.get i).mode
        (rawOf (s.profile.inputs.get i).polarity l).level (s.inputs.get i).output := by
      simp only [State.filterLevels, record, changed, if_false]
      rfl
    have sampled : SourceMoves (.input i) [] s (s.resampled i l) :=
      .idle rfl rfl (setInputRec_sources (s := s.pinAt i l) rfl)
    have moves := sampled.trans (filterTakes_sourceMoves i _)
    rw [levels, List.nil_append] at moves
    have moved := pinMoves_of_read ((inputRead_iff s i).mpr read) new
    have e : pinMoves i l s = filterTakes i (s.resampled i l) :=
      moved.trans (takeSample_of_no_filter (s := s.pinAt i l) changed fast)
    refine ⟨_, congrArg Host.Outcome.next e, tab_ext fun j => ?_, moves.chan,
      fun c named oneshot pressed out owned empty level sent => ?_, ?_⟩
    · rw [filterTakes_inputs, State.filterRec, record, levels]
      by_cases here : i = j <;> simp [State.resampled, setInputRec, State.pinAt, get_put, here]
    · have chan := (moves.chan c).trans (if_pos named)
      rw [oneshot, pressed, sourceLevel, out] at chan
      exact pulse_to_send chan owned empty level sent
    · apply State.ext_fields <;> simp [State.resampled, State.pinAt]

end Sys2Proof.Machine

/-! ### Host power (R85 to R90)

Entry to OFF and leaving it act on each MAIN input once, and on the channels that it feeds. -/

namespace Sys2Proof.Machine

open Sys2Proof

/-- In a walk over distinct entries, what one entry's step alone changes is changed by that step once. -/
theorem foldl_once {σ α ι : Type} [DecidableEq ι] {f : σ → ι → σ} {ok : σ → Prop} {view : σ → α} {i : ι}
    {g : α → α} (keeps : ∀ s j, ok s → ok (f s j)) (here : ∀ s, ok s → view (f s i) = g (view s))
    (other : ∀ s j, ok s → j ≠ i → view (f s j) = view s) {l : List ι} (nodup : l.Nodup) {s : σ}
    (h : ok s) : view (l.foldl f s) = if i ∈ l then g (view s) else view s := by
  induction l generalizing s with
  | nil => simp
  | cons j l ih =>
    obtain ⟨fresh, nodup⟩ := List.nodup_cons.mp nodup
    rw [List.foldl_cons, ih nodup (keeps s j h)]
    by_cases e : j = i
    · subst e
      simp [fresh, here s h]
    · simp [other s j h e, Ne.symm e]

/-! #### Every MAIN input -/

/-- What an operation does to an input that it acts on: its record, and the levels that its output moves
through, by its settings, its pin's sample and its record. -/
structure ActsOnInput (f : Fin 12 → State → State) (record : InputCfg → RawSample → InputRec → InputRec)
    (levels : InputCfg → RawSample → InputRec → List Level) : Prop where
  pins : ∀ i s, (f i s).pins = s.pins
  input : ∀ i j s, (f i s).inputs.get j =
    if j = i then record (s.profile.inputs.get i) (pinSample s i) (s.inputs.get i) else s.inputs.get j
  moves : ∀ i s,
    SourceMoves (.input i) (levels (s.profile.inputs.get i) (pinSample s i) (s.inputs.get i)) s (f i s)

theorem dropMainInput_acts :
    ActsOnInput dropMainInput
      (fun _ _ _ => { raw := .notSampled, timer := .stopped, filtered := .released, output := .released })
      (fun _ _ _ => [.released]) where
  pins i s := by simp
  input i j s := by
    by_cases here : j = i
    · simp [dropMainInput, setInputOutput_input, setInputRec, here]
    · simp [dropMainInput, setInputOutput_input, setInputRec, get_put, here, Ne.symm here]
  moves := dropMainInput_sourceMoves

theorem firstSample_acts :
    ActsOnInput firstSample (fun cfg raw r => firstRecord cfg raw r.output)
      (fun cfg raw r =>
        if raw = .active ∧ cfg.filterMs = 0 then modeLevels cfg.mode .asserted r.output else []) where
  pins i s := by simp
  input := firstSample_input
  moves := firstSample_sourceMoves

section OnMain

variable {f : Fin 12 → State → State} {record : InputCfg → RawSample → InputRec → InputRec}
  {levels : InputCfg → RawSample → InputRec → List Level}

/-- An operation on every MAIN input acts on each of them once. -/
theorem onMain_once {α : Type} (acts : ActsOnInput f record levels) (s : State) (i : Fin 12)
    (view : State → α) (g : α → α)
    (here : ∀ u, u.profile = s.profile → u.pins = s.pins → view (f i u) = g (view u))
    (other : ∀ u j, u.profile = s.profile → j ≠ i → view (f j u) = view u) :
    view (onMain f s) = if (s.profile.inputs.get i).domain = .main then g (view s) else view s := by
  have walk := foldl_once (ok := fun u => u.profile = s.profile ∧ u.pins = s.pins) (view := view) (i := i)
    (f := fun u j => if (u.profile.inputs.get j).domain = .main then f j u else u)
    (g := fun a => if (s.profile.inputs.get i).domain = .main then g a else a)
    (fun u j ok => by
      split
      exacts [⟨(acts.moves j u).profile.trans ok.1, (acts.pins j u).trans ok.2⟩, ok])
    (fun u ok => by
      rw [ok.1]
      split
      exacts [here u ok.1 ok.2, rfl])
    (fun u j ok ne => by
      split
      exacts [other u j ok.1 ne, rfl])
    (List.nodup_finRange 12) (s := s) ⟨rfl, rfl⟩
  rwa [if_pos (List.mem_finRange i)] at walk

theorem onMain_input (acts : ActsOnInput f record levels) (s : State) (i : Fin 12) :
    (onMain f s).inputs.get i =
      if (s.profile.inputs.get i).domain = .main then
        record (s.profile.inputs.get i) (pinSample s i) (s.inputs.get i)
      else s.inputs.get i :=
  onMain_once acts s i (fun u => u.inputs.get i)
    (record (s.profile.inputs.get i) (pinSample s i))
    (fun u profile pins => by simp only [acts.input, if_true, pinSample, profile, pins])
    (fun u j _ ne => by simp only [acts.input, if_neg ne.symm])

/-- The channels of a MAIN input follow it through the operation (R60). -/
theorem onMain_chan (acts : ActsOnInput f record levels) (s : State) {i : Fin 12} {c : Fin 16}
    (named : (s.profile.chans.get c).source = .input i) :
    (onMain f s).chans.get c =
      if (s.profile.inputs.get i).domain = .main then
        (s.chans.get c).following (s.profile.chans.get c).invert (s.inputs.get i).output
          (levels (s.profile.inputs.get i) (pinSample s i) (s.inputs.get i))
      else s.chans.get c := by
  have walk := onMain_once acts s i (fun u => (u.inputs.get i, u.chans.get c))
    (fun x => (record (s.profile.inputs.get i) (pinSample s i) x.1,
      x.2.following (s.profile.chans.get c).invert x.1.output
        (levels (s.profile.inputs.get i) (pinSample s i) x.1)))
    (fun u profile pins => by
      simp only [acts.input, (acts.moves i u).chan, if_true, pinSample, profile, pins, named]
      rfl)
    (fun u j profile ne => by
      have other : (u.profile.chans.get c).source ≠ .input j := by
        rw [profile, named]
        exact fun e => ne (Source.input.inj e).symm
      simp only [acts.input, (acts.moves j u).chan, if_neg ne.symm, if_neg other])
  have chan := congrArg Prod.snd walk
  split at chan <;> simp_all

end OnMain

/-! #### HPON and HPAWAKE -/

theorem hostPower_off_iff (s : State) : hostPower s = .off ↔ s.host.hpon = .low := by
  unfold hostPower decodeHost
  cases s.host.hpon <;> cases s.host.hpawake <;> simp

theorem hostPower_eq (s : State) :
    hostPower s =
      if s.host.hpon = .low then .off else if s.host.hpawake = .high then .run else .sleep := by
  unfold hostPower decodeHost
  cases s.host.hpon <;> cases s.host.hpawake <;> simp

/-- A host-power pin's filtered level has taken the pin's (R85). -/
def State.hostTaken (s : State) (pin : HostPin) : State :=
  s.setHost (s.host.take pin (s.pins.hostPin pin))

theorem exec_hostPowerFilterExpiry {s : State} {pin : HostPin} {ms : Nat} (awake : s.station ≠ .reset)
    (runs : s.host.timer pin = .running ms) :
    exec (.hostPowerFilterExpiry pin) s = .next (hostPowerChanged (hostPower s) (s.hostTaken pin)) := by
  refine congrArg Host.Outcome.next (if_pos ?_)
  simp [awake, runs, Timer.isRunning]

/-- What a change of host power state reaches, by the level of HPON before and after (R86 to R88). -/
theorem hostPowerChanged_eq (s u : State) :
    hostPowerChanged (hostPower s) u =
      if u.station.onLine = true ∧ u.host.hpon = .low ∧ s.host.hpon ≠ .low then onMain dropMainInput u
      else if u.station.onLine = true ∧ u.host.hpon ≠ .low ∧ s.host.hpon = .low then onMain firstSample u
      else u := by
  unfold hostPowerChanged
  simp only [ne_eq, hostPower_off_iff]
  by_cases on : u.station.onLine = true <;> by_cases was : s.host.hpon = .low <;>
    by_cases off : u.host.hpon = .low <;> simp [on, was, off]

/-- No change of host power state reaches a STANDBY input (R86). -/
theorem hostPowerChanged_standby (s u : State) {i : Fin 12}
    (standby : (u.profile.inputs.get i).domain = .standby) :
    (hostPowerChanged (hostPower s) u).inputs.get i = u.inputs.get i := by
  have not_main : (u.profile.inputs.get i).domain ≠ .main := by simp [standby]
  rw [hostPowerChanged_eq]
  (repeat' split)
  · rw [onMain_input dropMainInput_acts, if_neg not_main]
  · rw [onMain_input firstSample_acts, if_neg not_main]
  · rfl

/-- Nor a channel that no MAIN input feeds. -/
theorem hostPowerChanged_other_chan (s u : State) {c : Fin 16}
    (standby : ∀ i, (u.profile.chans.get c).source = .input i →
      (u.profile.inputs.get i).domain = .standby) :
    (hostPowerChanged (hostPower s) u).chans.get c = u.chans.get c := by
  by_cases named : Source.ofInput (u.profile.chans.get c).source
  · obtain ⟨i, named⟩ := named
    have not_main : (u.profile.inputs.get i).domain ≠ .main := by simp [standby i named]
    rw [hostPowerChanged_eq]
    (repeat' split)
    · rw [onMain_chan dropMainInput_acts u named, if_neg not_main]
    · rw [onMain_chan firstSample_acts u named, if_neg not_main]
    · rfl
  · exact (hostPowerChanged_moves _ u).chan_eq named

section Hpon

variable {s : State}

theorem hpon_entersOff (on : s.station.onLine = true) (off : s.pins.hpon = .low)
    (was : s.host.hpon ≠ .low) :
    hostPowerChanged (hostPower s) (s.hostTaken .hpon) = onMain dropMainInput (s.hostTaken .hpon) :=
  (hostPowerChanged_eq s _).trans (if_pos ⟨on, off, was⟩)

theorem hpon_leavesOff (on : s.station.onLine = true) (off : s.pins.hpon ≠ .low)
    (was : s.host.hpon = .low) :
    hostPowerChanged (hostPower s) (s.hostTaken .hpon) = onMain firstSample (s.hostTaken .hpon) :=
  (hostPowerChanged_eq s _).trans ((if_neg fun h => off h.2.1).trans (if_pos ⟨on, off, was⟩))

theorem hpon_idle (h : (s.pins.hpon = .low ↔ s.host.hpon = .low) ∨ s.station.onLine = false) :
    hostPowerChanged (hostPower s) (s.hostTaken .hpon) = s.hostTaken .hpon := by
  refine (hostPowerChanged_eq s _).trans ((if_neg ?_).trans (if_neg ?_)) <;>
    rintro ⟨on, off, was⟩ <;> rcases h with same | offLine
  · exact was (same.mp off)
  · exact absurd on (by simp [State.hostTaken, offLine])
  · exact off (same.mpr was)
  · exact absurd on (by simp [State.hostTaken, offLine])

end Hpon

/-- Settles O34: HPON's filter enters OFF, leaves it or does neither; HPAWAKE's does neither. -/
theorem hostFilterExpiry : Obligations.HostFilterExpiry := by
  refine ⟨fun s ms awake runs => ?_, fun s ms awake runs => ?_⟩
  · refine ⟨_, exec_hostPowerFilterExpiry awake runs, ?_, ?_, fun i standby => ?_,
      fun on off was i main => ?_, fun on off was i main => ?_, fun c i named main on off was => ?_,
      fun c i named main on off was => ?_, fun c standby => ?_, fun same => ?_, ?_⟩
    · simp [State.hostTaken, HostDecoder.take, Pins.hostPin]
    · rw [hostPower_eq]
      simp [State.hostTaken, HostDecoder.take, Pins.hostPin]
    · exact hostPowerChanged_standby s (s.hostTaken .hpon) standby
    · rw [hpon_entersOff on off was, onMain_input dropMainInput_acts]
      exact if_pos main
    · have record : (onMain firstSample (s.hostTaken .hpon)).inputs.get i = s.firstRec i :=
        (onMain_input firstSample_acts _ i).trans (if_pos main)
      rw [hpon_leavesOff on off was, record]
      exact ⟨rfl, rfl, rfl, rfl⟩
    · rw [hpon_entersOff on off was]
      exact (onMain_chan dropMainInput_acts (s.hostTaken .hpon) named).trans (if_pos main)
    · rw [hpon_leavesOff on off was]
      exact (onMain_chan firstSample_acts (s.hostTaken .hpon) named).trans (if_pos main)
    · exact hostPowerChanged_other_chan s (s.hostTaken .hpon) standby
    · rw [hpon_idle same]
      rfl
    · apply State.ext_fields <;> simp [State.hostTaken]
  · refine ⟨_, exec_hostPowerFilterExpiry awake runs, ?_⟩
    have idle : hostPowerChanged (hostPower s) (s.hostTaken .hpawake) = s.hostTaken .hpawake := by
      rw [hostPowerChanged_eq, if_neg, if_neg]
      · exact fun h => h.2.1 h.2.2
      · exact fun h => h.2.2 h.2.1
    rw [idle]
    exact ⟨rfl, hostPower_eq _⟩

end Sys2Proof.Machine

/-! ### Completion of a pattern, and ACK_PATTERNS (R61, R74, R75, R98, R105, R108 to R112, R141) -/

namespace Sys2Proof.Machine

open Sys2Proof

/-! #### The parts of a completion -/

/-- The MATCH record of pattern `p` is lost to a full journal (R141). -/
def State.matchLost (s : State) (p : Fin 8) : Bool :=
  (s.profile.patterns.get p).journal && decide (32 ≤ s.journal.records.length)

theorem matchRecord_journal (p : Fin 8) (stamp : Option (BitVec 16)) (s : State) :
    (matchRecord p stamp s).journal =
      if (s.profile.patterns.get p).journal = true then s.journal.taking (.matched p stamp)
      else s.journal := by
  unfold matchRecord
  split <;> simp [generate_journal]

theorem matchRecord_conds (p : Fin 8) (stamp : Option (BitVec 16)) (s : State) (c : Fin 7) :
    (matchRecord p stamp s).conds.get c =
      (s.conds.get c || decide (c = condJournalLost) && s.matchLost p) := by
  unfold matchRecord State.matchLost
  split
  · next on =>
    rw [generate_conds]
    split
    · next room => simp [on, Nat.not_le.mpr room]
    · next full =>
      rw [get_put]
      by_cases e : c = condJournalLost
      · simp [on, Nat.not_lt.mp full, e]
      · simp [e, Ne.symm e]
  · next off => simp [off]

theorem matchRecord_chan (p : Fin 8) (stamp : Option (BitVec 16)) (s : State) (c : Fin 16) :
    (matchRecord p stamp s).chans.get c =
      s.conditionsMove (if s.matchLost p = true then [.asserted] else []) c (s.chans.get c) := by
  unfold matchRecord State.matchLost
  split
  · next on =>
    rw [generate_chan]
    split
    · next room => simp [on, Nat.not_le.mpr room]
    · next full => simp [on, Nat.not_lt.mp full]
  · next off => simp [off]

theorem matchRecord_latched (s : State) (p : Fin 8) (stamp : Option (BitVec 16)) :
    (matchRecord p stamp (setMatchLatch p s)).patterns.get p = { s.patterns.get p with latch := true } := by
  simp [setMatchLatch]

/-- A completion before its reset of progress: latch, record, action (R108). -/
def State.matched (s : State) (p : Fin 8) (stamp : Option (BitVec 16)) : State :=
  performAction p (matchRecord p stamp (setMatchLatch p s))

@[simp] theorem matched_keeps (s : State) (p : Fin 8) (stamp : Option (BitVec 16)) :
    (s.matched p stamp).profile = s.profile ∧ (s.matched p stamp).slots = s.slots
      ∧ (s.matched p stamp).journal = (matchRecord p stamp (setMatchLatch p s)).journal
      ∧ (s.matched p stamp).conds = (matchRecord p stamp (setMatchLatch p s)).conds := by
  simp [State.matched]

/-- The latched record of pattern `p` with its output moved by the action (R108, R110). -/
theorem matched_pattern (s : State) (p : Fin 8) (stamp : Option (BitVec 16)) :
    ((s.matched p stamp).patterns.get p).latch = true
      ∧ ((s.matched p stamp).patterns.get p).output =
          lastLevel (s.patterns.get p).output
            (actionLevels (s.profile.patterns.get p).action (s.patterns.get p).output) := by
  have latched := matchRecord_latched s p stamp
  have profile : (matchRecord p stamp (setMatchLatch p s)).profile = s.profile := by simp
  refine ⟨by rw [State.matched, performAction_latch, latched], ?_⟩
  have moved := (performAction_sourceMoves p (matchRecord p stamp (setMatchLatch p s))).level
  simp only [sourceLevel, latched, profile] at moved
  exact moved

theorem matched_other {p q : Fin 8} (h : q ≠ p) (s : State) (stamp : Option (BitVec 16)) :
    (s.matched p stamp).patterns.get q = s.patterns.get q := by
  rw [State.matched, performAction_other h]
  simp [setMatchLatch, get_put, Ne.symm h]

theorem matched_chan (s : State) (p : Fin 8) (stamp : Option (BitVec 16)) (c : Fin 16) :
    (s.matched p stamp).chans.get c =
      if (s.profile.chans.get c).source = .pattern p then
        (s.chans.get c).following (s.profile.chans.get c).invert (s.patterns.get p).output
          (actionLevels (s.profile.patterns.get p).action (s.patterns.get p).output)
      else s.conditionsMove (if s.matchLost p = true then [.asserted] else []) c (s.chans.get c) := by
  have latched := matchRecord_latched s p stamp
  have profile : (matchRecord p stamp (setMatchLatch p s)).profile = s.profile := by simp
  have recorded : (matchRecord p stamp (setMatchLatch p s)).chans.get c =
      s.conditionsMove (if s.matchLost p = true then [.asserted] else []) c (s.chans.get c) :=
    (matchRecord_chan p stamp (setMatchLatch p s) c).trans (conditionsMove_congr rfl rfl _ c _)
  have moved := (performAction_sourceMoves p (matchRecord p stamp (setMatchLatch p s))).chan c
  rw [State.matched, moved, recorded, profile, latched]
  split
  · next named =>
    rw [conditionsMove_other (by simp [named]), sourceLevel, latched]
  · rfl

/-- A completion does what section 6.6 says, whatever brings it about (R108 to R110). -/
theorem complete_completes {p : Fin 8} {first : Step} {rest : List Step} {s : State}
    (steps : (s.profile.patterns.get p).steps = first :: rest) (stamp : Option (BitVec 16)) :
    Completes s p stamp first (complete p stamp s) := by
  have armed (q : Fin 8) : (complete p stamp s).patterns.get q =
      if q = p then s.armedRec first ((s.matched p stamp).patterns.get p)
      else (s.matched p stamp).patterns.get q := by
    have slots : (s.matched p stamp).armedRec first = s.armedRec first := by
      funext r
      simp [State.armedRec, entryTimers]
    have entered := resetProgress_pattern (s := s.matched p stamp) (by simpa using steps) q
    rwa [slots] at entered
  obtain ⟨latch, output⟩ := matched_pattern s p stamp
  refine ⟨?_, ?_, ?_, fun q other => ?_, ?_, fun c => ?_, matched_chan s p stamp, ?_⟩
  · rw [armed, if_pos rfl]
    exact entered_armedRec s first _
  · rw [armed, if_pos rfl]
    exact latch
  · rw [armed, if_pos rfl]
    exact output
  · rw [armed, if_neg other, matched_other other]
  · exact (matched_keeps s p stamp).2.2.1.trans (matchRecord_journal p stamp (setMatchLatch p s))
  · have conds := matchRecord_conds p stamp (setMatchLatch p s) c
    rwa [← (matched_keeps s p stamp).2.2.2] at conds
  · apply State.ext_fields <;> simp

/-! #### What completes a pattern -/

theorem advance_of_last {p : Fin 8} {first : Step} {rest : List Step} {s : State}
    (steps : (s.profile.patterns.get p).steps = first :: rest)
    (last : rest.length ≤ (s.patterns.get p).progress) (stamp : Option (BitVec 16)) :
    advance p stamp s = complete p stamp s := by
  refine if_neg ?_
  rw [steps, List.length_cons]
  omega

/-- A transition that satisfies the current step advances the pattern (R98). -/
theorem patternTake_of_satisfied {p : Fin 8} {tr : Transition} {st : Step} {s : State}
    (step : (s.profile.patterns.get p).steps[(s.patterns.get p).progress]? = some st)
    (satisfied : st.satisfiedBy tr = true) : patternTake p tr s = advance p (some tr.stamp) s := by
  have judged (holding strict watched : Bool) : judge st holding strict watched tr = .advance := by
    cases st with
    | rise | fall | anyRise => exact if_pos satisfied
    | hold | quiet => cases satisfied
  simp only [patternTake, step, judged]

/-- A hold timer that expires with its slot ASSERTED completes its step (R105). -/
theorem holdExpires_of_asserted {p : Fin 8} {k : Fin 48} {w time ms : Nat} {s : State}
    (delivers : s.station.delivers = true)
    (step : (s.profile.patterns.get p).steps[(s.patterns.get p).progress]? = some (.hold k w time))
    (timer : (s.patterns.get p).timer = .hold ms) (stands : (s.slots.get k).level = .asserted) :
    holdExpires p s = advance p none s := by
  simp [holdExpires, delivers, timer, holdSlot, step, stands]

/-- A quiet timer that expires completes its step (R106). -/
theorem quietExpires_of_running {p : Fin 8} {ms : Nat} {s : State} (delivers : s.station.delivers = true)
    (timer : (s.patterns.get p).timer = .quiet ms) : quietExpires p s = advance p none s := by
  simp [quietExpires, delivers, timer]

theorem patRec_eq {r : PatRec} {progress : Nat} {window : Timer} {timer : HoldQuiet} {latch : Bool}
    {output : Level} (progress_eq : r.progress = progress) (window_eq : r.window = window)
    (timer_eq : r.timer = timer) (latch_eq : r.latch = latch) (output_eq : r.output = output) :
    r = { progress := progress, window := window, timer := timer, latch := latch, output := output } := by
  subst progress_eq window_eq timer_eq latch_eq output_eq
  rfl

/-- Settles O38: a transition, a hold and a quiet timer that complete the last step complete the pattern. -/
theorem patternCompletes : Obligations.PatternCompletes := by
  refine ⟨fun s p tr first st rest steps step last satisfied => ?_,
    fun s p first rest k w time ms station steps step last timer stands => ?_,
    fun s p ms time station steps progress timer => ?_⟩
  · rw [patternTake_of_satisfied (steps ▸ step) satisfied, advance_of_last steps last]
    exact complete_completes steps _
  · refine ⟨_, congrArg Host.Outcome.next ((holdExpires_of_asserted
      (Station.delivers_iff.mpr station) (steps ▸ step) timer stands).trans
        (advance_of_last steps last none)), complete_completes steps none⟩
  · have completes := complete_completes (s := s) steps none
    have e := (quietExpires_of_running (Station.delivers_iff.mpr station) timer).trans
      (advance_of_last steps (by simp) none)
    obtain ⟨⟨step0, quiet, window⟩, latch, output, others, journal, conds, chan, -⟩ := completes
    refine ⟨_, congrArg Host.Outcome.next e, tab_ext fun q => ?_, fun off => ?_, fun on => ?_,
      fun c no_pattern no_cond => ?_, fun c named pulse out owned empty upright level sent => ?_⟩
    · rw [get_put]
      split
      · next here =>
        subst here
        refine (patRec_eq step0 window quiet latch output).trans ?_
        cases (s.profile.patterns.get p).action <;> rfl
      · next other => exact others q (Ne.symm other)
    · rw [journal, if_neg (by simp [off])]
      exact ⟨rfl, tab_ext fun c => by simp [conds, off]⟩
    · rw [journal, if_pos on]
    · rw [chan]
      exact (if_neg no_pattern).trans (conditionsMove_other no_cond _ _)
    · have followed := (chan c).trans (if_pos named)
      rw [pulse, out, upright] at followed
      exact pulse_to_send followed owned empty level sent

end Sys2Proof.Machine

/-! ### Requests that move sources (R60, R61, R72 to R75, R112, R120, R171, R172) -/

namespace Sys2Proof.Machine

open Sys2Proof

/-! #### A request and its answer around what it does -/

/-- A write touches only the port and the hand-over before it acts (R146, R164). -/
@[simp] theorem asked_keeps (s : State) (bytes : Nat) :
    (s.asked bytes).station = s.station ∧ (s.asked bytes).cause = s.cause
      ∧ (s.asked bytes).stationCode = s.stationCode ∧ (s.asked bytes).addrCode = s.addrCode
      ∧ (s.asked bytes).profile = s.profile ∧ (s.asked bytes).loader = s.loader
      ∧ (s.asked bytes).lif = s.lif ∧ (s.asked bytes).owner = s.owner
      ∧ (s.asked bytes).slots = s.slots ∧ (s.asked bytes).chans = s.chans
      ∧ (s.asked bytes).soft = s.soft ∧ (s.asked bytes).inputs = s.inputs
      ∧ (s.asked bytes).host = s.host ∧ (s.asked bytes).patterns = s.patterns
      ∧ (s.asked bytes).conds = s.conds ∧ (s.asked bytes).blink = s.blink
      ∧ (s.asked bytes).journal = s.journal.released ∧ (s.asked bytes).pins = s.pins
      ∧ (s.asked bytes).freeIndex = s.freeIndex ∧ (s.asked bytes).pending = s.pending := by
  simp [State.asked]
  simp [endHandOver, ackWrite, Journal.released]

/-- The port once an action that leaves it alone has been answered (R164 to R166). -/
theorem answer_port {s u : State} {bytes : Nat} (port : u.port = (s.asked bytes).port) (tag : Byte)
    (data : List Byte) :
    (answer tag data u).port = s.port.answered bytes tag .ok false data := by
  have acked : min bytes Config.requestMax = if bytes < 8 then bytes else 8 := by
    simp only [Config.requestMax]
    split <;> omega
  simp [answer, respond, port, State.asked, endHandOver, ackWrite, acked, Port.answered]

/-- A source that an accepted request moves has moved by the time it is answered. -/
theorem SourceMoves.answered {src : Source} {vs : List Level} {s u : State} {bytes : Nat}
    (h : SourceMoves src vs (s.asked bytes) u) (tag : Byte) (data : List Byte) :
    SourceMoves src vs s (answer tag data u) := by
  have asked : SourceMoves src [] s (s.asked bytes) := .idle (by simp) (by simp) (by simp [sourcesView])
  have moved := (asked.trans h).trans (SourceMoves.idle (t := answer tag data u) rfl rfl rfl)
  simpa using moved

/-- On the line an accepted write to the port's own address acts and is answered (R163, R167). -/
theorem addressed_accepted {s : State} (on : s.station.onLine = true) {code : Option RequestCode}
    {rest : List Byte} (accepted : judgeRequest code rest = .ok)
    (act : Byte → List Byte → State → State) :
    addressed (portAddress s) (takeRequest code rest act) s =
      act (requestTag rest) rest.tail (s.asked (rest.length + 1)) :=
  (addressed_own _ s (Station.not_idle_of_onLine on).1).trans (takeRequest_accepted on accepted act)

/-- A tag and as many operands as the request takes, of values that it accepts (R167). -/
theorem judgeRequest_accepted {code : RequestCode} {ops : List Byte} (count : ops.length = operandCount code)
    (values : operandsAccepted code ops = true) (tag : Byte) :
    judgeRequest (some code) (tag :: ops) = .ok := by
  have few : operandCount code ≤ 2 := by cases code <;> decide
  have short : ¬ Config.requestMax < (tag :: ops).length + 1 := by
    simp only [Config.requestMax, List.length_cons, count]
    omega
  simp only [judgeRequest, reduceCtorEq, false_or, short, if_false, List.tail_cons, count, ne_eq,
    not_true_eq_false, values, if_true]

/-! #### ACK_CONDITIONS (R74, R120, R171) -/

/-- The data of ACK_CONDITIONS: LINE_STUCK, if it is named, set and held (R171). -/
def State.heldCondition (s : State) (mask : Byte) : List Byte :=
  if mask.getLsbD 0 = true ∧ s.conds.get condLineStuck = true ∧ s.lif.line = .stuck then [0x00#8] else []

/-- The station once ACK_CONDITIONS has acted, before the answer (R120). -/
def State.condsCleared (s : State) (mask : Byte) : State := clearConds (condMask mask) (s.asked 3)

theorem condsAnswer_conds (s : State) (tag : Byte) (data : List Byte) (mask : Byte) (c : Fin 7) :
    (answer tag data (s.condsCleared mask)).conds.get c =
      (s.conds.get c && (!mask.getLsbD c.val || decide (c = condLineStuck ∧ s.lif.line = .stuck))) := by
  simp [State.condsCleared, clearConds_conds, condMask, stuckHeld, beq_eq_decide]

theorem condsAnswer_sourceMoves (s : State) (tag : Byte) (data : List Byte) (mask : Byte) :
    SourceMoves .conditions
      (if ∃ d, (answer tag data (s.condsCleared mask)).conds.get d = true then [] else [.released]) s
      (answer tag data (s.condsCleared mask)) := by
  simp only [← anyCond_iff]
  exact (clearConds_sourceMoves (condMask mask) (s.asked 3)).answered tag data

theorem exec_ackConditions {s : State} (on : s.station.onLine = true) {tag mask : Byte}
    (valid : mask.toNat < 128) :
    exec (.ackConditions ⟨portAddress s, [tag, mask]⟩) s =
      .next (answer tag (s.heldCondition mask) (s.condsCleared mask)) := by
  have high_bit : mask.getLsbD 7 = false := Nat.testBit_lt_two_pow valid
  have values : operandsAccepted .ackConditions [mask] = true := congrArg not high_bit
  have accepted := judgeRequest_accepted rfl values tag
  have data : (if (condMask mask).get condLineStuck && (s.asked 3).conds.get condLineStuck
      && stuckHeld (s.asked 3) then [0x00#8] else []) = s.heldCondition mask := by
    simp [State.heldCondition, condMask, stuckHeld, condLineStuck, and_assoc]
  rw [← data]
  exact congrArg Host.Outcome.next (addressed_accepted on accepted actAckConditions)

/-- Settles O48: the named latches go but a held LINE_STUCK, and the CONDITIONS source follows the last. -/
theorem ackConditions : Obligations.AckConditions := by
  intro s tag mask on valid
  refine ⟨_, exec_ackConditions on valid, ?_⟩
  have port := answer_port (s := s) (u := s.condsCleared mask) (bytes := 3) (by simp [State.condsCleared])
    tag (s.heldCondition mask)
  have cleared := condsAnswer_conds s tag (s.heldCondition mask) mask
  have moves := condsAnswer_sourceMoves s tag (s.heldCondition mask) mask
  have frame : answer tag (s.heldCondition mask) (s.condsCleared mask) =
      { s with
        journal := s.journal.released
        port := (answer tag (s.heldCondition mask) (s.condsCleared mask)).port
        conds := (answer tag (s.heldCondition mask) (s.condsCleared mask)).conds
        chans := (answer tag (s.heldCondition mask) (s.condsCleared mask)).chans } := by
    apply State.ext_fields <;> simp [State.condsCleared]
  generalize answer tag (s.heldCondition mask) (s.condsCleared mask) = t at port cleared moves frame ⊢
  refine ⟨cleared, port, fun c other => (moves.chan c).trans (if_neg other),
    fun still => tab_ext fun c => ?_, moves.chan, fun c named was gone => ?_, frame⟩
  · rw [moves.chan]
    rcases still with left | none
    · simp [left]
    · have rest : sourceLevel s .conditions = .released := by
        rw [sourceLevel_conditions, if_neg (by simp [anyCond_iff, none])]
      by_cases left : ∃ d, t.conds.get d = true <;> simp [left, rest]
  · have stood : sourceLevel s .conditions = .asserted := by
      rw [sourceLevel_conditions, if_pos ((anyCond_iff s).mpr was)]
    have none_left : ¬ ∃ d, t.conds.get d = true := by simp [gone]
    rw [moves.chan, if_pos named, if_neg none_left, stood]
    cases (s.profile.chans.get c).invert <;> exact take_level _ _

/-! #### ACK_PATTERNS (R75, R112, R171) -/

/-- A named pattern's record after ACK_PATTERNS (R112). -/
def acknowledged (cfg : PatCfg) (r : PatRec) : PatRec :=
  { r with latch := false, output := if cfg.action = .set then .released else r.output }

theorem ackPattern_pattern (p q : Fin 8) (s : State) :
    (ackPattern p s).patterns.get q =
      if q = p then acknowledged (s.profile.patterns.get p) (s.patterns.get p) else s.patterns.get q := by
  unfold ackPattern acknowledged
  dsimp only
  by_cases here : q = p
  · subst here
    split <;> simp [setPatternOutput_pattern]
  · split <;> simp [setPatternOutput_pattern, get_put, here, Ne.symm here]

/-- ACK_PATTERNS acts on each named pattern once. -/
theorem ackPatternsMask_once {α : Type} (mask : Byte) (s : State) (p : Fin 8) (view : State → α) (g : α → α)
    (here : ∀ u, u.profile = s.profile → view (ackPattern p u) = g (view u))
    (other : ∀ u q, u.profile = s.profile → q ≠ p → view (ackPattern q u) = view u) :
    view (ackPatternsMask mask s) = if mask.getLsbD p.val = true then g (view s) else view s := by
  have walk := foldl_once (ok := fun u => u.profile = s.profile) (view := view) (i := p)
    (f := fun u q => if mask.getLsbD q.val then ackPattern q u else u)
    (g := fun a => if mask.getLsbD p.val = true then g a else a)
    (fun u q ok => by
      split
      exacts [(ackPattern_sourceMoves q u).profile.trans ok, ok])
    (fun u ok => by
      split
      exacts [here u ok, rfl])
    (fun u q ok ne => by
      split
      exacts [other u q ok ne, rfl])
    (List.nodup_finRange 8) (s := s) rfl
  rwa [if_pos (List.mem_finRange p)] at walk

theorem ackPatternsMask_pattern (mask : Byte) (s : State) (p : Fin 8) :
    (ackPatternsMask mask s).patterns.get p =
      if mask.getLsbD p.val = true then acknowledged (s.profile.patterns.get p) (s.patterns.get p)
      else s.patterns.get p :=
  ackPatternsMask_once mask s p (fun u => u.patterns.get p) (acknowledged (s.profile.patterns.get p))
    (fun u profile => by simp only [ackPattern_pattern, if_true, profile])
    (fun u q _ ne => by simp only [ackPattern_pattern, if_neg ne.symm])

/-- A channel follows the output of its pattern, which is released if the pattern is named and SET (R75). -/
theorem ackPatternsMask_chan (mask : Byte) (s : State) {p : Fin 8} {c : Fin 16}
    (named : (s.profile.chans.get c).source = .pattern p) :
    (ackPatternsMask mask s).chans.get c =
      (s.chans.get c).following (s.profile.chans.get c).invert (s.patterns.get p).output
        (if mask.getLsbD p.val = true ∧ (s.profile.patterns.get p).action = .set then [.released]
         else []) := by
  have walk := ackPatternsMask_once mask s p (fun u => (u.patterns.get p, u.chans.get c))
    (fun x => (acknowledged (s.profile.patterns.get p) x.1,
      x.2.following (s.profile.chans.get c).invert x.1.output
        (if (s.profile.patterns.get p).action = .set then [.released] else [])))
    (fun u profile => by
      simp only [ackPattern_pattern, (ackPattern_sourceMoves p u).chan, if_true, profile, named]
      rfl)
    (fun u q profile ne => by
      have other : (u.profile.chans.get c).source ≠ .pattern q := by
        rw [profile, named]
        exact fun e => ne (Source.pattern.inj e).symm
      simp only [ackPattern_pattern, (ackPattern_sourceMoves q u).chan, if_neg ne.symm, if_neg other])
  have chan := congrArg Prod.snd walk
  by_cases acked : mask.getLsbD p.val = true
  · rw [if_pos acked] at chan
    simpa only [acked, true_and] using chan
  · rw [if_neg acked] at chan
    rwa [if_neg fun named => acked named.1]

/-- A channel that no pattern feeds stands through ACK_PATTERNS. -/
theorem ackPatternsMask_other_chan (mask : Byte) (s : State) {c : Fin 16}
    (other : ∀ p, (s.profile.chans.get c).source ≠ .pattern p) :
    (ackPatternsMask mask s).chans.get c = s.chans.get c := by
  have moves : MovesOnly (fun src => ∃ p, src = .pattern p) s (ackPatternsMask mask s) := by
    refine .foldl (fun s p => ?_) _ s
    split
    · exact (ackPattern_sourceMoves p s).movesOnly.mono fun _ e => ⟨p, e⟩
    · exact .refl s
  exact moves.chan_eq fun ⟨p, e⟩ => other p e

theorem exec_ackPatterns {s : State} (on : s.station.onLine = true) (tag mask : Byte) :
    exec (.ackPatterns ⟨portAddress s, [tag, mask]⟩) s =
      .next (answer tag [] (ackPatternsMask mask (s.asked 3))) :=
  congrArg Host.Outcome.next (addressed_accepted on (judgeRequest_accepted rfl rfl tag) actAckPatterns)

/-- Settles O49: pattern by pattern, its record and the channels that its output feeds. -/
theorem ackPatterns : Obligations.AckPatterns := by
  intro s tag mask on
  refine ⟨_, exec_ackPatterns on tag mask, fun p => ?_, fun c other => ?_, fun c p named => ?_, ?_⟩
  · have record := ackPatternsMask_pattern mask (s.asked 3) p
    simpa [acknowledged] using record
  · have still := ackPatternsMask_other_chan mask (s.asked 3) (c := c) (by simpa using other)
    simpa using still
  · have followed := ackPatternsMask_chan mask (s.asked 3) (c := c) (p := p) (by simpa using named)
    simpa using followed
  · apply State.ext_fields <;> simp [answer_port (s := s) (bytes := 3)]

/-! #### SET_SOFT and PULSE_SOFT (R72, R73, R172) -/

theorem softIndex_number (k : Fin 4) : softIndex (BitVec.ofNat 8 k.val) = k := by
  apply Fin.ext
  simp only [softIndex, BitVec.toNat_ofNat]
  omega

theorem softLevel_number (v : Level) : softLevel (if v = .asserted then 1#8 else 0#8) = v := by
  cases v <;> rfl

/-- The soft levels byte, bit by bit (section 11.4). -/
theorem softByte_eq (s : State) :
    softByte s =
      BitVec.ofNat 8 (((List.finRange 4).map fun j => bitAt (s.soft.get j == .asserted) j.val).sum) := by
  simp only [softByte, byteOf, packBits_flagBits, Level.bit_eq]

theorem softNumber_lt (k : Fin 4) : (BitVec.ofNat 8 k.val).toNat < 4 := by
  simp only [BitVec.toNat_ofNat]
  omega

/-- The station once SET_SOFT has acted, before the answer (R72). -/
def State.softSet (s : State) (k : Fin 4) (v : Level) : State := setSoftLevel k v (s.asked 4)

/-- The station once PULSE_SOFT has acted, before the answer (R73). -/
def State.softPulsed (s : State) (k : Fin 4) : State :=
  setSoftLevel k .released (setSoftLevel k .asserted (s.asked 3))

/-- The answer with the soft levels byte, bit by bit (R172). -/
theorem softAnswer_port {s u : State} {bytes : Nat} (port : u.port = (s.asked bytes).port) (tag : Byte) :
    (answer tag [softByte u] u).port =
      s.port.answered bytes tag .ok false
        [BitVec.ofNat 8 (((List.finRange 4).map fun j =>
          bitAt ((answer tag [softByte u] u).soft.get j == .asserted) j.val).sum)] := by
  rw [answer_port port, softByte_eq]
  rfl

theorem exec_setSoft {s : State} (on : s.station.onLine = true) (tag : Byte) (k : Fin 4) (v : Level) :
    exec (.setSoft
        ⟨portAddress s, [tag, BitVec.ofNat 8 k.val, if v = .asserted then 1#8 else 0#8]⟩) s =
      .next (answer tag [softByte (s.softSet k v)] (s.softSet k v)) := by
  have level : (if v = .asserted then 1#8 else 0#8 : Byte).toNat < 2 := by cases v <;> decide
  have values : operandsAccepted .setSoft [BitVec.ofNat 8 k.val, if v = .asserted then 1#8 else 0#8] = true :=
    Bool.and_eq_true_iff.mpr ⟨decide_eq_true (softNumber_lt k), decide_eq_true level⟩
  have accepted := judgeRequest_accepted rfl values tag
  refine congrArg Host.Outcome.next ((addressed_accepted on accepted actSetSoft).trans ?_)
  simp only [actSetSoft, List.tail_cons, List.getD_cons_zero, List.getD_cons_succ, softIndex_number,
    softLevel_number]
  rfl

theorem exec_pulseSoft {s : State} (on : s.station.onLine = true) (tag : Byte) (k : Fin 4) :
    exec (.pulseSoft ⟨portAddress s, [tag, BitVec.ofNat 8 k.val]⟩) s =
      .next (answer tag [softByte (s.softPulsed k)] (s.softPulsed k)) := by
  have values : operandsAccepted .pulseSoft [BitVec.ofNat 8 k.val] = true :=
    decide_eq_true (softNumber_lt k)
  have accepted := judgeRequest_accepted rfl values tag
  refine congrArg Host.Outcome.next ((addressed_accepted on accepted actPulseSoft).trans ?_)
  simp only [actPulseSoft, List.tail_cons, List.getD_cons_zero, softIndex_number]
  rfl

/-- Settles O50: the soft source takes the level, or pulses, and its channels follow. -/
theorem softRequests : Obligations.SoftRequests := by
  intro s tag k v on
  refine ⟨⟨_, exec_setSoft on tag k v, ?_⟩, _, exec_pulseSoft on tag k, ?_⟩
  · have moves : SourceMoves (.soft k) [v] s (answer tag [softByte (s.softSet k v)] (s.softSet k v)) :=
      (setSoftLevel_sourceMoves k v (s.asked 4)).answered tag _
    have port := softAnswer_port (s := s) (u := s.softSet k v) (bytes := 4) (by simp [State.softSet]) tag
    refine ⟨by simp [State.softSet, setSoftLevel_soft], fun same => tab_ext fun c => ?_,
      fun c other => (moves.chan c).trans (if_neg other), fun c new named => ?_, ?_⟩
    · rw [moves.chan]
      simp [sourceLevel, same]
    · rw [moves.chan, if_pos named, Channel.following_cons, Channel.following_nil,
        if_neg (show v ≠ sourceLevel s (.soft k) from Ne.symm new), Level.through, opposite_eq_ite]
    · apply State.ext_fields
      case h_port => exact port
      all_goals simp [State.softSet]
  · have moves : SourceMoves (.soft k) [.asserted, .released] s
        (answer tag [softByte (s.softPulsed k)] (s.softPulsed k)) :=
      ((setSoftLevel_sourceMoves k _ (s.asked 3)).trans (setSoftLevel_sourceMoves k _ _)).answered tag _
    have port := softAnswer_port (s := s) (u := s.softPulsed k) (bytes := 3) (by simp [State.softPulsed]) tag
    refine ⟨?_, fun c other => (moves.chan c).trans (if_neg other),
      fun c named => (moves.chan c).trans (if_pos named),
      fun c named old upright owned level sent empty => ?_, ?_⟩
    · refine tab_ext fun j => ?_
      by_cases here : k = j <;> simp [State.softPulsed, setSoftLevel_soft, get_put, here]
    · have chan := (moves.chan c).trans (if_pos named)
      rw [upright, sourceLevel, old] at chan
      exact (pulse_to_send chan owned empty level sent).1
    · apply State.ext_fields
      case h_port => exact port
      all_goals simp [State.softPulsed]

end Sys2Proof.Machine

/-! ### A change at HPON or HPAWAKE (R85, R149) -/

namespace Sys2Proof.Machine

open Sys2Proof

/-- In RESET, or at the level that the pin has already, only the record of the pin moves. -/
theorem exec_hostPowerPinChange_recorded {s : State} {pin : HostPin} {l : PinLevel}
    (unread : s.station = .reset ∨ s.pins.hostPin pin = l) :
    exec (.hostPowerPinChange pin l) s = .next (s.setPins (s.pins.withHostPin pin l)) :=
  congrArg Host.Outcome.next (if_pos unread)

/-- Outside RESET, a new level also stops or starts the pin's filter. -/
theorem exec_hostPowerPinChange_filtered {s : State} {pin : HostPin} {l : PinLevel}
    (awake : s.station ≠ .reset) (new : s.pins.hostPin pin ≠ l) :
    exec (.hostPowerPinChange pin l) s =
      .next ((s.setPins (s.pins.withHostPin pin l)).setHost
        (s.host.withTimer pin
          (if s.host.filtered pin = l then .stopped else .running Config.hostFilterMs))) :=
  congrArg Host.Outcome.next (if_neg (not_or_intro awake new))

/-- Settles O33: at each of the two pins, the change is either recorded alone or filtered. -/
theorem hostPinChange : Obligations.HostPinChange := by
  intro s l
  refine ⟨fun unread => ?hponRecorded, fun awake new => ?hponFiltered,
    fun unread => ?hpawakeRecorded, fun awake new => ?hpawakeFiltered⟩
  case hponRecorded => exact exec_hostPowerPinChange_recorded (pin := .hpon) unread
  case hponFiltered => exact exec_hostPowerPinChange_filtered (pin := .hpon) awake new
  case hpawakeRecorded => exact exec_hostPowerPinChange_recorded (pin := .hpawake) unread
  case hpawakeFiltered => exact exec_hostPowerPinChange_filtered (pin := .hpawake) awake new

end Sys2Proof.Machine

/-! ### The timers of a pattern expire, and a transition is judged (R94, R95, R97 to R106) -/

namespace Sys2Proof.Machine

open Sys2Proof

/-! #### Advance and expiry -/

/-- A complete step that is not the last hands over to the next one (R98, R105, R106). -/
theorem advance_entersOnly {p : Fin 8} {next : Step} {s : State}
    (step : (s.profile.patterns.get p).steps[(s.patterns.get p).progress + 1]? = some next)
    (stamp : Option (BitVec 16)) :
    EntersOnly s p ((s.patterns.get p).progress + 1) next (advance p stamp s) := by
  have more := (List.getElem?_eq_some_iff.mp step).1
  rw [advance, if_pos more]
  exact enterStep_entersOnly p _ next s step

/-- A reset of progress enters step 0 anew (R95). -/
theorem resetProgress_entersOnly {p : Fin 8} {first : Step} {rest : List Step} {s : State}
    (steps : (s.profile.patterns.get p).steps = first :: rest) :
    EntersOnly s p 0 first (resetProgress p s) :=
  enterStep_entersOnly p 0 first s (by simp [steps])

theorem windowExpires_of_running {p : Fin 8} {ms : Nat} {s : State} (delivers : s.station.delivers = true)
    (window : (s.patterns.get p).window = .running ms) : windowExpires p s = resetProgress p s := by
  simp [windowExpires, delivers, window, Timer.isRunning]

/-- A hold timer that expires with its slot RELEASED resets its pattern, whatever its steps (R105). -/
theorem holdExpires_of_released {p : Fin 8} {k : Fin 48} {w time ms : Nat} {s : State}
    (delivers : s.station.delivers = true)
    (step : (s.profile.patterns.get p).steps[(s.patterns.get p).progress]? = some (.hold k w time))
    (timer : (s.patterns.get p).timer = .hold ms) (fallen : (s.slots.get k).level = .released) :
    holdExpires p s = resetProgress p s := by
  simp [holdExpires, delivers, timer, holdSlot, step, fallen]

/-- Settles O35: an expiry is a reset of progress or an advance. -/
theorem windowAndHoldExpiry : Obligations.WindowAndHoldExpiry := by
  intro s p ms first rest station steps r
  have delivers := Station.delivers_iff.mpr station
  have reset := resetProgress_entersOnly steps
  refine ⟨fun window => ?_, fun k w time timer step => ?_⟩
  · obtain ⟨frame, entered, latch, output, others⟩ := reset
    exact ⟨_, congrArg Host.Outcome.next (windowExpires_of_running delivers window), entered, latch, output,
      others, frame⟩
  · cases stands : (s.slots.get k).level with
    | released =>
      obtain ⟨frame, entered, latch, output, others⟩ := reset
      exact ⟨_, congrArg Host.Outcome.next (holdExpires_of_released delivers (steps ▸ step) timer stands),
        fun _ => ⟨entered, latch, output, frame⟩, nofun, nofun, others⟩
    | asserted =>
      refine ⟨_, congrArg Host.Outcome.next (holdExpires_of_asserted delivers (steps ▸ step) timer stands),
        nofun, fun next _ following => ?_, fun _ last => ?_, fun q other => advance_other other none s⟩
      · obtain ⟨frame, entered, latch, output, -⟩ := advance_entersOnly (steps ▸ following) none
        exact ⟨entered, latch, output, frame⟩
      · have last : rest.length ≤ r.progress := by simpa using last
        rw [advance_of_last steps last]
        obtain ⟨entered, latch, -⟩ := complete_completes steps none
        exact ⟨entered, latch⟩

/-- Settles O36: an expired quiet timer advances its pattern, which completes it at the last step. -/
theorem quietExpiry : Obligations.QuietExpiry := by
  intro s p ms first rest station steps r timer
  refine ⟨_, congrArg Host.Outcome.next (quietExpires_of_running (Station.delivers_iff.mpr station) timer),
    fun next following => advance_entersOnly (steps ▸ following) none, fun last => ?_⟩
  rw [advance_of_last steps last]
  exact complete_completes steps none

/-! #### The retry of a transition (R99) -/

theorem Transition.risesOn_iff {tr : Transition} {k : Fin 48} :
    tr.risesOn k = true ↔ tr.level = .asserted ∧ tr.slot = k := by
  simp [Transition.risesOn, Transition.rises]

theorem put_put {α : Type} {n : Nat} (v : Vector α n) (i : Fin n) (x y : α) :
    put (put v i x) i y = put v i y := by
  simp [put]

theorem setPatterns_setPatterns (s : State) (x y : Vector PatRec 8) :
    (s.setPatterns x).setPatterns y = s.setPatterns y := rfl

theorem resetProgress_eq {p : Fin 8} {first : Step} {rest : List Step} {s : State}
    (steps : (s.profile.patterns.get p).steps = first :: rest) :
    resetProgress p s = s.setPatterns (put s.patterns p (s.armedRec first (s.patterns.get p))) := by
  simp [resetProgress, enterStep, steps, State.armedRec]

/-- A HOLD step 0 whose slot rises holds after the retry, if its re-arming has not started it already (R94,
R101). -/
theorem startHold_resetProgress {p : Fin 8} {k : Fin 48} {w time : Nat} {rest : List Step} {s : State}
    (steps : (s.profile.patterns.get p).steps = .hold k w time :: rest) :
    (if ((resetProgress p s).patterns.get p).holding = true then resetProgress p s
      else startHold p (10 * time) (resetProgress p s)) =
      s.setPatterns (put s.patterns p
        { s.patterns.get p with progress := 0, window := .stopped, timer := .hold (10 * time) }) := by
  rw [resetProgress_eq steps]
  by_cases stands : (s.slots.get k).level = .asserted
  · simp [State.armedRec, entryTimers, stands, PatRec.holding]
  · simp [State.armedRec, entryTimers, stands, PatRec.holding, startHold, put_put,
      setPatterns_setPatterns]

/-- Entering a step writes over what a reset of progress has written. -/
theorem enterStep_resetProgress (p : Fin 8) (n : Nat) (s : State) :
    enterStep p n (resetProgress p s) = enterStep p n s := by
  simp [resetProgress, enterStep, entryTimers, put_put, setPatterns_setPatterns]

section Retry

variable {p : Fin 8} {first : Step} {rest : List Step} {tr : Transition} {s : State}

/-- A retried transition that satisfies step 0 advances a pattern that has a step 1 (R99). -/
theorem retry_of_satisfied {next : Step} (steps : (s.profile.patterns.get p).steps = first :: next :: rest)
    (satisfied : first.satisfiedBy tr = true) : retry p tr s = enterStep p 1 s := by
  simp [retry, steps, satisfied]

/-- A retried rise of the slot of a HOLD step 0 starts a hold that is not running (R99, R101). -/
theorem retry_of_rising {w time : Nat}
    (steps : (s.profile.patterns.get p).steps = .hold tr.slot w time :: rest)
    (rises : tr.level = .asserted) :
    retry p tr s = if (s.patterns.get p).holding = true then s else startHold p (10 * time) s := by
  have rises := Transition.risesOn_iff.mpr ⟨rises, rfl⟩
  cases rest <;> cases h : (s.patterns.get p).holding <;> simp [retry, steps, Step.satisfiedBy, rises, h]

/-- A retried transition that can neither advance the pattern nor start its hold does nothing (R99). -/
theorem retry_of_unfit (steps : (s.profile.patterns.get p).steps = first :: rest)
    (stays : first.satisfiedBy tr = false ∨ rest = [])
    (falls : ∀ w time, first = .hold tr.slot w time → tr.level = .released) : retry p tr s = s := by
  have no_rise (k : Fin 48) (w time : Nat) (e : first = .hold k w time) : tr.risesOn k = false := by
    rw [Bool.eq_false_iff, ne_eq, Transition.risesOn_iff]
    rintro ⟨rises, rfl⟩
    rw [falls w time e] at rises
    cases rises
  cases rest with
  | nil => cases first <;> simp_all [retry]
  | cons next rest => cases first <;> simp_all [retry]

/-- What a retry after a reset of progress comes to: an advance to step 1, a hold, or step 0 anew (R99). -/
theorem retry_cases (tr : Transition) (steps : (s.profile.patterns.get p).steps = first :: rest) :
    (∃ next, first.satisfiedBy tr = true ∧ rest.head? = some next
        ∧ EntersOnly s p 1 next (retry p tr (resetProgress p s)))
      ∨ (∃ w time, first = .hold tr.slot w time ∧ tr.level = .asserted
        ∧ retry p tr (resetProgress p s) = s.setPatterns (put s.patterns p
          { s.patterns.get p with progress := 0, window := .stopped, timer := .hold (10 * time) }))
      ∨ (first.satisfiedBy tr = false ∨ rest = [])
        ∧ (∀ w time, first = .hold tr.slot w time → tr.level = .released)
        ∧ EntersOnly s p 0 first (retry p tr (resetProgress p s)) := by
  have again : ((resetProgress p s).profile.patterns.get p).steps = first :: rest := by simpa using steps
  by_cases rising : ∃ w time, first = .hold tr.slot w time ∧ tr.level = .asserted
  · obtain ⟨w, time, rfl, rises⟩ := rising
    exact .inr (.inl ⟨w, time, rfl, rises,
      (retry_of_rising again rises).trans (startHold_resetProgress steps)⟩)
  · have falls (w time : Nat) (e : first = .hold tr.slot w time) : tr.level = .released := by
      cases level : tr.level with
      | released => rfl
      | asserted => exact absurd ⟨w, time, e, level⟩ rising
    by_cases stays : first.satisfiedBy tr = false ∨ rest = []
    · rw [retry_of_unfit again stays falls]
      exact .inr (.inr ⟨stays, falls, resetProgress_entersOnly steps⟩)
    · obtain ⟨satisfied, more⟩ := not_or.mp stays
      obtain ⟨next, rest, rfl⟩ := List.exists_cons_of_ne_nil more
      have satisfied := Bool.not_eq_false _ ▸ satisfied
      rw [retry_of_satisfied again satisfied, enterStep_resetProgress]
      exact .inl ⟨next, satisfied, rfl, enterStep_entersOnly p 1 next s (by simp [steps])⟩

/-- Reset and retry, case by case (R95, R99). -/
theorem retry_resetsAndRetries (tr : Transition) (steps : (s.profile.patterns.get p).steps = first :: rest) :
    ResetsAndRetries s p tr first rest (retry p tr (resetProgress p s)) := by
  rcases retry_cases tr steps with ⟨next, satisfied, head, enters⟩ | ⟨w, time, rfl, rises, held⟩
      | ⟨stays, falls, enters⟩
  · refine ⟨fun next' _ head' => ?_, ?_, ?_⟩
    · cases head.symm.trans head'
      exact enters
    · rintro w time rfl
      cases satisfied
    · rintro (no | no)
      · simp [satisfied] at no
      · simp [no] at head
  · refine ⟨nofun, ?_, fun _ falls => ?_⟩
    · rintro w' time' ⟨⟩ -
      exact held
    · simp [falls w time rfl] at rises
  · refine ⟨fun next satisfied head => ?_, fun w time e rises => ?_, fun _ _ => enters⟩
    · rcases stays with no | no
      · simp [satisfied] at no
      · simp [no] at head
    · simp [falls w time e] at rises

end Retry

/-! #### The verdict (R97 to R103) -/

/-- A HOLD step puts its slot in the watched set (R93). -/
theorem watches_of_hold {cfg : PatCfg} {n w time : Nat} {k : Fin 48}
    (step : cfg.steps[n]? = some (.hold k w time)) : cfg.watches k = true := by
  simp only [PatCfg.watches, List.any_eq_true]
  exact ⟨_, List.mem_of_getElem? step, by simp [Step.watches]⟩

theorem Step.isQuiet_iff {st : Step} : st.isQuiet = true ↔ ∃ time, st = .quiet time := by
  cases st <;> simp [Step.isQuiet]

/-- What a verdict does to pattern `p` (section 6.4). -/
def actOn (p : Fin 8) (tr : Transition) (s : State) : Verdict → State
  | .passOver => s
  | .advance => advance p (some tr.stamp) s
  | .startHold ms => startHold p ms s
  | .restartQuiet ms => restartQuiet p ms s
  | .resetAndRetry => retry p tr (resetProgress p s)

/-- An enabled pattern takes a transition as its current step judges it (R97). -/
theorem patternTake_of_step {p : Fin 8} {st : Step} {s : State}
    (step : (s.profile.patterns.get p).steps[(s.patterns.get p).progress]? = some st) (tr : Transition) :
    patternTake p tr s =
      actOn p tr s (judge st (s.patterns.get p).holding (s.profile.patterns.get p).strict
        ((s.profile.patterns.get p).watches tr.slot) tr) := by
  simp only [patternTake, step]
  split <;> simp only [actOn, *]

section Judge

variable {st : Step} {tr : Transition} (holding strict watched : Bool)

/-- A transition that fits neither a step nor the slot of its HOLD is a mismatch (R99, R100). -/
theorem judge_of_unfit (timed : st.isQuiet = false) (unsatisfied : st.satisfiedBy tr = false)
    (other : ∀ w time, st ≠ .hold tr.slot w time) :
    judge st holding strict watched tr = mismatch strict watched := by
  cases st with
  | rise k w => exact if_neg (by simp [unsatisfied])
  | fall k w => exact if_neg (by simp [unsatisfied])
  | anyRise w => exact if_neg (by simp [unsatisfied])
  | hold k w time =>
    have ne : ¬ tr.slot = k := fun e => other w time (by rw [e])
    simp [judge, Transition.risesOn, Transition.fallsOn, ne]
  | quiet time => cases timed

/-- A rise of a HOLD step's slot starts its timer, or leaves it running (R101). -/
theorem judge_of_rise {w time : Nat} (rises : tr.level = .asserted) :
    judge (.hold tr.slot w time) holding strict watched tr =
      if holding = true then .passOver else .startHold (10 * time) :=
  if_pos (Transition.risesOn_iff.mpr ⟨rises, rfl⟩)

/-- A fall of a HOLD step's slot breaks a hold, and is a mismatch to a step that waits (R102). -/
theorem judge_of_fall {w time : Nat} (falls : tr.level = .released) :
    judge (.hold tr.slot w time) holding strict watched tr =
      if holding = true then .resetAndRetry else mismatch strict watched := by
  cases holding <;> simp [judge, Transition.risesOn, Transition.fallsOn, Transition.rises, falls]

end Judge

/-- A mismatch resets and retries a STRICT pattern that watches the slot, and is passed over otherwise (R99,
R100). -/
theorem actOn_mismatch (p : Fin 8) (tr : Transition) (s : State) (strict watched : Bool) :
    actOn p tr s (mismatch strict watched) =
      if strict = true ∧ watched = true then retry p tr (resetProgress p s) else s := by
  cases strict <;> cases watched <;> rfl

/-- Settles O37: the current step judges the transition, and the verdict is carried out. -/
theorem transitionJudged : Obligations.TransitionJudged := by
  intro s p tr first st rest cfg r steps step watched s'
  have taken : s' = actOn p tr s (judge st r.holding cfg.strict watched tr) := patternTake_of_step step tr
  have resets := retry_resetsAndRetries (s := s) tr steps
  have unfit (timed : st.isQuiet = false) (unsatisfied : st.satisfiedBy tr = false)
      (other : ∀ w time, st ≠ .hold tr.slot w time) :
      s' = if cfg.strict = true ∧ watched = true then retry p tr (resetProgress p s) else s := by
    rw [taken, judge_of_unfit _ _ _ timed unsatisfied other, actOn_mismatch]
  have no_hold (plain : st.isHold = false) (w time : Nat) : st ≠ .hold tr.slot w time := by
    rintro rfl
    cases plain
  refine ⟨fun next satisfied following => ?_, fun satisfied last => ?_, fun unsatisfied unwatched => ?_,
    fun plain timed unsatisfied _ loose => ?_, fun plain unsatisfied on strict => ?_, ?_, ?_, ?_, ?_, ?_, ?_⟩
  · rw [show s' = advance p (some tr.stamp) s from patternTake_of_satisfied step satisfied]
    exact advance_entersOnly following _
  · rw [show s' = advance p (some tr.stamp) s from patternTake_of_satisfied step satisfied,
      advance_of_last steps (by simpa [cfg, steps] using last)]
    obtain ⟨entered, latch, -⟩ := complete_completes steps (some tr.stamp)
    exact ⟨entered, latch⟩
  · cases timed : st.isQuiet with
    | true =>
      obtain ⟨time, rfl⟩ := Step.isQuiet_iff.mp timed
      rw [taken, unwatched]
      rfl
    | false =>
      rw [unfit timed unsatisfied, if_neg (by simp [unwatched])]
      rintro w time rfl
      have watched_slot : watched = true := watches_of_hold step
      simp [unwatched] at watched_slot
  · rw [unfit timed unsatisfied (no_hold plain), if_neg (by simp [loose])]
  · cases timed : st.isQuiet with
    | true =>
      obtain ⟨time, rfl⟩ := Step.isQuiet_iff.mp timed
      rw [taken, on, strict]
      exact resets
    | false =>
      rw [unfit timed unsatisfied (no_hold plain), if_pos ⟨strict, on⟩]
      exact resets
  · rintro k w time rfl other on
    have passed := unfit rfl rfl (by rintro w time ⟨⟩; exact other rfl)
    exact ⟨fun loose => by rw [passed, if_neg (by simp [loose])],
      fun strict => by rw [passed, if_pos ⟨strict, on⟩]; exact resets⟩
  · rintro w time rfl rises timer
    rw [taken, judge_of_rise _ _ _ rises, if_neg (by simp [PatRec.holding, timer])]
    rfl
  · rintro w time ms rfl rises timer
    rw [taken, judge_of_rise _ _ _ rises, if_pos (by simp [PatRec.holding, timer])]
    rfl
  · rintro w time rfl falls timer
    have on : watched = true := watches_of_hold step
    have passed : s' = if cfg.strict = true ∧ watched = true then retry p tr (resetProgress p s) else s := by
      rw [taken, judge_of_fall _ _ _ falls, if_neg (by simp [PatRec.holding, timer]), actOn_mismatch]
    exact ⟨fun loose => by rw [passed, if_neg (by simp [loose])],
      fun strict => by rw [passed, if_pos ⟨strict, on⟩]; exact resets⟩
  · rintro w time ms rfl falls timer
    rw [taken, judge_of_fall _ _ _ falls, if_pos (by simp [PatRec.holding, timer])]
    exact resets
  · rintro time rfl on loose
    rw [taken, on, loose]
    rfl

end Sys2Proof.Machine

/-! ### The laws of the patterns and of their outputs (R91, R92, R94 to R96, R110, R111)

Both laws are read record by record: what a pattern's timers may do at its step, and what its output says of
its match latch. A station that delivers nothing has every record at rest, where both hold whatever the
profile. -/

namespace Sys2Proof.Machine

open Sys2Proof

/-- The record of a pattern before it is armed (R91). -/
def PatRec.atRest : PatRec where
  progress := 0
  window := .stopped
  timer := .stopped
  latch := false
  output := .released

/-- A record's progress and timers fit the steps of its pattern (R92, R94, R95). -/
structure TimersOk (steps : List Step) (r : PatRec) : Prop where
  reached : r.progress < steps.length ∨ r.progress = 0 ∧ r.timer = .stopped
  one_runs : r.window = .stopped ∨ r.timer = .stopped
  first : r.progress = 0 → r.window = .stopped
  hold : ∀ ms, r.timer = .hold ms → steps[r.progress]?.any Step.isHold = true
  quiet : ∀ ms, r.timer = .quiet ms → steps[r.progress]?.any Step.isQuiet = true
  no_window : steps[r.progress]?.any Step.isQuiet = true → r.window = .stopped

/-- An output fits its pattern's action and match latch (R110, R111). -/
structure OutputOk (action : Action) (latch : Bool) (output : Level) : Prop where
  set : action = .set → (output = .asserted ↔ latch = true)
  plain : action = .none ∨ action = .pulse → output = .released

/-- Both laws of the pattern unit, pattern by pattern. -/
structure PatternsOk (s : State) : Prop where
  timers : ∀ p, TimersOk (s.profile.patterns.get p).steps (s.patterns.get p)
  output : ∀ p, OutputOk (s.profile.patterns.get p).action (s.patterns.get p).latch (s.patterns.get p).output
  rest : s.station.delivers = false → ∀ p, s.patterns.get p = .atRest

theorem patternLaws_iff (s : State) : s.PatternLaw ∧ s.MatchLaw ↔ PatternsOk s := by
  constructor
  · rintro ⟨⟨lawful, still⟩, set, plain, clear⟩
    have timers (p : Fin 8) : TimersOk (s.profile.patterns.get p).steps (s.patterns.get p) := by
      obtain ⟨reached, one_runs, first, hold, quiet, no_window⟩ := lawful p
      exact ⟨reached, one_runs, first, hold, quiet, no_window⟩
    refine ⟨timers, fun p => ⟨set p, plain p⟩, fun silent p => ?_⟩
    obtain ⟨progress, timer⟩ := still silent p
    obtain ⟨latch, output⟩ := clear silent p
    exact patRec_eq progress ((timers p).first progress) timer latch output
  · intro h
    refine ⟨⟨fun p => ?_, fun silent p => ?_⟩, fun p => (h.output p).set, fun p => (h.output p).plain,
      fun silent p => ?_⟩
    · obtain ⟨reached, one_runs, first, hold, quiet, no_window⟩ := h.timers p
      exact ⟨reached, one_runs, first, hold, quiet, no_window⟩
    · rw [h.rest silent p]
      exact ⟨rfl, rfl⟩
    · rw [h.rest silent p]
      exact ⟨rfl, rfl⟩

/-- What the two laws read. -/
def patternsView (s : State) : Station × Profile × Vector PatRec 8 := (s.station, s.profile, s.patterns)

theorem patternsView_eq {s t : State} : patternsView t = patternsView s ↔
    t.station = s.station ∧ t.profile = s.profile ∧ t.patterns = s.patterns := by
  simp [patternsView]

/-! #### One record -/

namespace TimersOk

variable {steps : List Step} {st : Step} {r : PatRec}

theorem atRest (steps : List Step) : TimersOk steps .atRest where
  reached := .inr ⟨rfl, rfl⟩
  one_runs := .inl rfl
  first _ := rfl
  hold _ := nofun
  quiet _ := nofun
  no_window _ := rfl

/-- At a step that waits only the window runs, and not at step 0 (R94). -/
theorem of_waiting (step : steps[r.progress]? = some st) (untimed : st.isQuiet = false)
    (timer : r.timer = .stopped) (first : r.progress = 0 → r.window = .stopped) : TimersOk steps r where
  reached := .inl (List.getElem?_eq_some_iff.mp step).1
  one_runs := .inr timer
  first := first
  hold ms := by simp [timer]
  quiet ms := by simp [timer]
  no_window := by simp [step, untimed]

/-- At a step that its timer completes no window runs (R94, R101, R103). -/
theorem of_timed (step : steps[r.progress]? = some st) (window : r.window = .stopped)
    (timer : st.isHold = true ∧ (∃ ms, r.timer = .hold ms) ∨ st.isQuiet = true ∧ ∃ ms, r.timer = .quiet ms) :
    TimersOk steps r where
  reached := .inl (List.getElem?_eq_some_iff.mp step).1
  one_runs := .inl window
  first _ := window
  hold ms holding := by
    rcases timer with ⟨kind, -⟩ | ⟨-, ms', quiet⟩
    · simp [step, kind]
    · simp [quiet] at holding
  quiet ms waiting := by
    rcases timer with ⟨-, ms', hold⟩ | ⟨kind, -⟩
    · simp [hold] at waiting
    · simp [step, kind]
  no_window _ := window

/-- A step just entered runs the timers of its kind (R94). -/
theorem of_entered {s : State} {k : Nat} (step : steps[k]? = some st) (entered : Entered s k st r) :
    TimersOk steps r := by
  obtain ⟨rfl, timers⟩ := entered
  cases st with
  | rise slot w | fall slot w | anyRise w =>
    obtain ⟨timer, window⟩ := timers
    exact .of_waiting step rfl timer fun first => by rw [window, if_pos (.inl first)]
  | hold slot w time =>
    dsimp only at timers
    split at timers
    · obtain ⟨timer, window⟩ := timers
      exact .of_timed step window (.inl ⟨rfl, _, timer⟩)
    · obtain ⟨timer, window⟩ := timers
      exact .of_waiting step rfl timer fun first => by rw [window, if_pos (.inl first)]
  | quiet time =>
    obtain ⟨timer, window⟩ := timers
    exact .of_timed step window (.inr ⟨rfl, _, timer⟩)

/-- A timer runs in an enabled pattern only (R92). -/
theorem enabled (h : TimersOk steps r) (runs : r.window ≠ .stopped ∨ r.timer ≠ .stopped) : steps ≠ [] := by
  rintro rfl
  rcases h.reached with inside | ⟨start, stopped⟩
  · simp at inside
  · exact runs.elim (· (h.first start)) (· stopped)

end TimersOk

namespace OutputOk

theorem atRest (action : Action) : OutputOk action false .released where
  set _ := by simp
  plain _ := rfl

/-- A completion's action fits the match latch that it sets (R110, R111). -/
theorem completed {action : Action} {latch : Bool} {output : Level} (h : OutputOk action latch output) :
    OutputOk action true (lastLevel output (actionLevels action output)) where
  set e := by simp [e, actionLevels]
  plain
    | .inl e => by simpa [e, actionLevels] using h.plain (.inl e)
    | .inr e => by simp [e, actionLevels]

/-- An acknowledgement clears a match latch and releases a SET output with it (R112). -/
theorem acknowledged {cfg : PatCfg} {r : PatRec} (h : OutputOk cfg.action r.latch r.output) :
    OutputOk cfg.action (acknowledged cfg r).latch (acknowledged cfg r).output where
  set e := by simp [Machine.acknowledged, e]
  plain kind := by
    have other : cfg.action ≠ .set := by rintro e; simp [e] at kind
    simpa [Machine.acknowledged, other] using h.plain kind

end OutputOk

/-! #### The pattern unit -/

/-- Only a HOLD step starts a hold timer (R101). -/
theorem isHold_of_judge {st : Step} {holding strict watched : Bool} {tr : Transition} {ms : Nat}
    (verdict : judge st holding strict watched tr = .startHold ms) : st.isHold = true := by
  cases st with
  | hold => rfl
  | rise | fall | anyRise | quiet =>
    simp only [judge, mismatch] at verdict
    (repeat' split at verdict) <;> cases verdict

/-- Only a QUIET step restarts a quiet timer (R103). -/
theorem isQuiet_of_judge {st : Step} {holding strict watched : Bool} {tr : Transition} {ms : Nat}
    (verdict : judge st holding strict watched tr = .restartQuiet ms) : st.isQuiet = true := by
  cases st with
  | quiet => rfl
  | rise | fall | anyRise | hold =>
    simp only [judge, mismatch] at verdict
    (repeat' split at verdict) <;> cases verdict

/-- ACK_PATTERNS is the one accepted request, RESTART aside, that touches the patterns (R168 to R172). -/
theorem requestActions_patterns : ∀ act ∈ requestActions, ∀ tag ops s,
    patternsView (act tag ops s) = patternsView s
      ∨ ∃ mask, patternsView (act tag ops s) = patternsView (ackPatternsMask mask s) := by
  intro act mem tag ops s
  simp only [requestActions, List.mem_cons, List.not_mem_nil, or_false] at mem
  rcases mem with rfl | rfl | rfl | rfl | rfl | rfl | rfl | rfl | rfl | rfl | rfl
  case inr.inr.inr.inr.inr.inr.inr.inl => exact .inr ⟨ops.getD 0 0, rfl⟩
  all_goals exact .inl (by simp [patternsView])

namespace PatternsOk

variable {s t : State} {p : Fin 8}

theorem of_view (h : PatternsOk s) (same : patternsView t = patternsView s) : PatternsOk t := by
  obtain ⟨station, profile, patterns⟩ := patternsView_eq.mp same
  exact ⟨by rw [profile, patterns]; exact h.timers, by rw [profile, patterns]; exact h.output,
    by rw [station, patterns]; exact h.rest⟩

/-- At rest the patterns keep their laws under any profile (R91, R158). -/
theorem of_atRest (rest : ∀ p, s.patterns.get p = .atRest) : PatternsOk s where
  timers p := by rw [rest]; exact .atRest _
  output p := by rw [rest]; exact .atRest _
  rest _ := rest

theorem of_reset (patterns : s.patterns = State.reset.patterns) : PatternsOk s :=
  .of_atRest fun p => by simp [patterns, PatRec.atRest]

/-- A station that delivers may change one pattern's record for one that fits. -/
theorem of_one (h : PatternsOk s) (delivers : s.station.delivers = true)
    (frame : t.station = s.station ∧ t.profile = s.profile)
    (others : ∀ q, q ≠ p → t.patterns.get q = s.patterns.get q)
    (timers : TimersOk (s.profile.patterns.get p).steps (t.patterns.get p))
    (output : OutputOk (s.profile.patterns.get p).action (t.patterns.get p).latch (t.patterns.get p).output) :
    PatternsOk t where
  timers q := by
    rw [frame.2]
    by_cases here : q = p
    · rwa [here]
    · rw [others q here]
      exact h.timers q
  output q := by
    rw [frame.2]
    by_cases here : q = p
    · rwa [here]
    · rw [others q here]
      exact h.output q
  rest silent := by simp [frame.1, delivers] at silent

theorem put (h : PatternsOk s) (delivers : s.station.delivers = true) {r : PatRec}
    (timers : TimersOk (s.profile.patterns.get p).steps r) (latch : r.latch = (s.patterns.get p).latch)
    (output : r.output = (s.patterns.get p).output) :
    PatternsOk (s.setPatterns (put s.patterns p r)) :=
  h.of_one (p := p) delivers ⟨rfl, rfl⟩ (fun q other => by simp [get_put, Ne.symm other])
    (by simpa using timers) (by simpa [latch, output] using h.output p)

/-- A step that a pattern has may be entered (R94). -/
theorem enters (h : PatternsOk s) (delivers : s.station.delivers = true) {k : Nat} {st : Step}
    (step : (s.profile.patterns.get p).steps[k]? = some st) (enters : EntersOnly s p k st t) :
    PatternsOk t := by
  obtain ⟨frame, entered, latch, output, others⟩ := enters
  exact h.of_one delivers (by rw [frame]; exact ⟨rfl, rfl⟩) others (.of_entered step entered)
    (by rw [latch, output]; exact h.output p)

theorem resetProgress (h : PatternsOk s) (delivers : s.station.delivers = true)
    (enabled : (s.profile.patterns.get p).steps ≠ []) : PatternsOk (resetProgress p s) := by
  obtain ⟨first, rest, steps⟩ := List.exists_cons_of_ne_nil enabled
  exact h.enters delivers (k := 0) (by rw [steps]; rfl) (resetProgress_entersOnly steps)

theorem advance (h : PatternsOk s) (delivers : s.station.delivers = true)
    (enabled : (s.profile.patterns.get p).steps ≠ []) (stamp : Option (BitVec 16)) :
    PatternsOk (advance p stamp s) := by
  obtain ⟨first, rest, steps⟩ := List.exists_cons_of_ne_nil enabled
  cases following : (s.profile.patterns.get p).steps[(s.patterns.get p).progress + 1]? with
  | some next => exact h.enters delivers following (advance_entersOnly following stamp)
  | none =>
    rw [advance_of_last steps (by simpa [steps] using following)]
    obtain ⟨entered, latch, output, others, -, -, -, frame⟩ := complete_completes steps stamp
    exact h.of_one delivers (by rw [frame]; exact ⟨rfl, rfl⟩) others
      (.of_entered (k := 0) (by rw [steps]; rfl) entered)
      (by rw [latch, output]; exact (h.output p).completed)

theorem retry (h : PatternsOk s) (delivers : s.station.delivers = true)
    (enabled : (s.profile.patterns.get p).steps ≠ []) (tr : Transition) :
    PatternsOk (retry p tr (Machine.resetProgress p s)) := by
  obtain ⟨first, rest, steps⟩ := List.exists_cons_of_ne_nil enabled
  rcases retry_cases tr steps with ⟨next, -, head, enters⟩ | ⟨w, time, rfl, -, held⟩ | ⟨-, -, enters⟩
  · exact h.enters delivers (by rw [steps, List.getElem?_cons_succ, ← List.head?_eq_getElem?, head]) enters
  · rw [held]
    have timers := TimersOk.of_timed (steps := (s.profile.patterns.get p).steps)
      (st := .hold tr.slot w time)
      (r := { s.patterns.get p with progress := 0, window := .stopped, timer := .hold (10 * time) })
      (by rw [steps]; rfl) rfl (.inl ⟨rfl, _, rfl⟩)
    exact h.put delivers timers rfl rfl
  · exact h.enters delivers (k := 0) (by rw [steps]; rfl) enters

/-- Whatever the verdict on a transition, the pattern keeps its laws (R97). -/
theorem patternTake (h : PatternsOk s) (delivers : s.station.delivers = true) (p : Fin 8) (tr : Transition) :
    PatternsOk (patternTake p tr s) := by
  cases step : (s.profile.patterns.get p).steps[(s.patterns.get p).progress]? with
  | none => simpa [Machine.patternTake, step] using h
  | some st =>
    have enabled := List.ne_nil_of_mem (List.mem_of_getElem? step)
    rw [patternTake_of_step step]
    cases verdict : judge st (s.patterns.get p).holding (s.profile.patterns.get p).strict
        ((s.profile.patterns.get p).watches tr.slot) tr with
    | passOver => exact h
    | advance => exact h.advance delivers enabled _
    | startHold ms =>
      exact h.put delivers (.of_timed step rfl (.inl ⟨isHold_of_judge verdict, _, rfl⟩)) rfl rfl
    | restartQuiet ms =>
      have kind := isQuiet_of_judge verdict
      have window := (h.timers p).no_window (by simp [step, kind])
      exact h.put delivers (.of_timed step window (.inr ⟨kind, _, rfl⟩)) rfl rfl
    | resetAndRetry => exact h.retry delivers enabled tr

theorem patternsTake (h : PatternsOk s) (delivers : s.station.delivers = true) (tr : Transition) :
    PatternsOk (patternsTake tr s) := by
  unfold Machine.patternsTake
  induction List.finRange 8 generalizing s with
  | nil => exact h
  | cons p l ih => exact ih (h.patternTake delivers p tr) (by simpa using delivers)

theorem deliver (h : PatternsOk s) (delivers : s.station.delivers = true) (tr : Transition) :
    PatternsOk (deliver tr s) := by
  have recorded : PatternsOk (journalStep tr (latchStep tr s)) := h.of_view (by simp [patternsView])
  exact recorded.patternsTake (by simpa using delivers) tr

theorem windowExpires (h : PatternsOk s) (p : Fin 8) : PatternsOk (windowExpires p s) := by
  unfold Machine.windowExpires
  split
  · next due =>
    obtain ⟨delivers, running⟩ := Bool.and_eq_true_iff.mp due
    refine h.resetProgress delivers ((h.timers p).enabled (.inl ?_))
    rintro stopped
    simp [stopped, Timer.isRunning] at running
  · exact h

theorem holdExpires (h : PatternsOk s) (p : Fin 8) : PatternsOk (holdExpires p s) := by
  unfold Machine.holdExpires
  split
  · next delivers =>
    split
    · next timer _ =>
      have enabled := (h.timers p).enabled (.inr (by simp [timer]))
      split
      exacts [h.advance delivers enabled none, h.resetProgress delivers enabled]
    · exact h
  · exact h

theorem quietExpires (h : PatternsOk s) (p : Fin 8) : PatternsOk (quietExpires p s) := by
  unfold Machine.quietExpires
  split
  · next delivers =>
    split
    · next timer => exact h.advance delivers ((h.timers p).enabled (.inr (by simp [timer]))) none
    · exact h
  · exact h

theorem ackPatternsMask (h : PatternsOk s) (mask : Byte) : PatternsOk (ackPatternsMask mask s) := by
  have profile : (Machine.ackPatternsMask mask s).profile = s.profile := by simp
  have station : (Machine.ackPatternsMask mask s).station = s.station := by simp
  constructor
  · intro p
    rw [profile, ackPatternsMask_pattern]
    split
    · obtain ⟨reached, one_runs, first, hold, quiet, no_window⟩ := h.timers p
      exact ⟨reached, one_runs, first, hold, quiet, no_window⟩
    · exact h.timers p
  · intro p
    rw [profile, ackPatternsMask_pattern]
    split
    exacts [(h.output p).acknowledged, h.output p]
  · intro silent p
    rw [station] at silent
    rw [ackPatternsMask_pattern, h.rest silent p]
    simp [acknowledged, PatRec.atRest]

/-! #### Requests, and events between deliveries -/

theorem takeWrite (h : PatternsOk s) (code : Byte) (rest : List Byte) (stn : BitVec 4) (addr : BitVec 2) :
    PatternsOk (takeWrite code rest stn addr s) := by
  rcases takeWrite_cases code rest stn addr s with ⟨e, -⟩ | ⟨c, act, mem, e⟩
  · rw [e]
    exact .of_reset rfl
  · rw [e]
    refine kept_by_takeRequest (fun _ _ h => h.of_view rfl) (fun _ _ h => h.of_view rfl)
      (fun tag ops s h => ?_) c rest h
    rcases requestActions_patterns act mem tag ops s with same | ⟨mask, same⟩
    · exact h.of_view same
    · exact (h.ackPatternsMask mask).of_view same

theorem takeMid (h : PatternsOk s) (e : MidEvent) : PatternsOk (takeMid e s) := by
  cases e with
  | powerOnReset | pinReset => exact .of_reset rfl
  | windowTimerExpiry p => exact h.windowExpires p
  | holdTimerExpiry p => exact h.holdExpires p
  | quietTimerExpiry p => exact h.quietExpires p
  | request code w stn addr =>
    simp only [Machine.takeMid, addressed]
    split
    exacts [h.takeWrite code w.rest stn addr, h]
  | responseRead r => exact h.of_view (addressed_keeps patternsView _ _ s (by simp [patternsView]))
  | _ => exact h.of_view (by simp [patternsView, Machine.takeMid])

/-! #### The frame end -/

theorem deliverAll (h : PatternsOk s) (trs : List Transition) (between : List (List MidEvent)) :
    PatternsOk (deliverAll trs between s) := by
  induction trs generalizing between s with
  | nil => exact h
  | cons tr trs ih =>
    have after_events := kept_by_takeMids (P := PatternsOk) (fun e _ h => h.takeMid e) (between.headD []) h
    rw [deliverAll_cons]
    split
    · next delivers => exact ih (after_events.deliver delivers tr) between.tail
    · exact after_events

/-- Arming enters step 0 of every enabled pattern, and moves no latch and no output (R96). -/
theorem leaveListen (h : PatternsOk s) : PatternsOk (leaveListen s) := by
  have profile : (Machine.leaveListen s).profile = s.profile := by simp
  constructor
  · intro p
    rw [profile, leaveListen_pattern, State.armedPattern]
    split
    · next steps => exact steps ▸ h.timers p
    · next first rest steps => exact .of_entered (k := 0) (by rw [steps]; rfl) (entered_armedRec s first _)
  · intro p
    rw [profile, leaveListen_pattern, State.armedPattern]
    split <;> exact h.output p
  · intro silent
    rw [leaveListen_station, Owner.joins] at silent
    split at silent <;> cases silent

theorem censusFrame (h : PatternsOk s) : PatternsOk (censusFrame s) := by
  have counted : PatternsOk (countCensus s) := h.of_view (by simp [patternsView])
  unfold Machine.censusFrame
  dsimp only
  split
  · have learnt : PatternsOk (learnWithClaims (reportConflicts (conflicting (countCensus s))
        (decideClaims (countCensus s)))) := counted.of_view (by simp [patternsView])
    exact learnt.leaveListen.of_view (by simp [patternsView, completeCensus])
  · exact counted.of_view (by simp [patternsView])

theorem endFrame (h : PatternsOk s) (check : Sample) (between : List (List MidEvent)) :
    PatternsOk (endFrame check between s) := by
  by_cases atCheck : s.AtCheck
  · have checked : PatternsOk (s.checked check) := h.of_view (by simp [patternsView])
    by_cases valid : check = .free ∧ s.lif.fault = false
    · obtain ⟨rfl, clean⟩ := valid
      rcases Station.onLine_iff.mp atCheck.1 with listen | station
      · rw [endFrame_of_atCheck .free between atCheck, if_pos ⟨rfl, clean⟩,
          endValid_listen between (by simpa using listen)]
        have counted : PatternsOk (countValid (s.checked .free)) := checked.of_view (by simp [patternsView])
        exact counted.censusFrame
      · rw [show Machine.endFrame .free between s = _ from
          Host.Outcome.next.inj (exec_frameEnd_valid atCheck station clean between)]
        have applied : PatternsOk s.applied := h.of_view (by simp [patternsView])
        exact applied.deliverAll _ between
    · rw [endFrame_of_atCheck check between atCheck, if_neg valid]
      exact checked.of_view (by simp [patternsView])
  · rw [endFrame_of_not_atCheck check between atCheck]
    exact h.of_view (by simp [patternsView])

/-! #### Start-up -/

/-- A profile comes into force in LISTEN, where every pattern is at rest (R91, R158). -/
theorem takeImageByte (h : PatternsOk s) (b : Byte) : PatternsOk (takeImageByte b s) := by
  rcases takeImageByte_cases b s with ⟨l, e⟩ | ⟨loading, l, p, e, -⟩
  · rw [e]
    exact h.of_view rfl
  · rw [e]
    exact .of_atRest (by simpa using h.rest (by simp [loading, Station.delivers]))

theorem resetEnds (h : PatternsOk s) (stn : BitVec 4) (addr : BitVec 2) :
    PatternsOk (resetEnds stn addr s) := by
  unfold Machine.resetEnds
  split
  · next reset => exact .of_atRest (h.rest (by simp [reset, Station.delivers]))
  · exact h

end PatternsOk

/-- Settles O57: each command enters steps and completes patterns as the laws let it, or leaves them at
rest. -/
theorem patternLawsKept : Obligations.PatternLawsKept := by
  intro s t laws hs
  rw [patternLaws_iff] at laws ⊢
  refine kept_by_step (P := PatternsOk) (fun _ _ h => h.of_view rfl) ?_ laws hs
  exact fun c s t h he => kept_by_exec (P := PatternsOk)
    (fun e _ h => h.takeMid e) (fun stn addr _ h => h.resetEnds stn addr)
    (fun b _ h => h.takeImageByte b) (fun _ h => h.of_view (by simp [patternsView]))
    (fun x between _ h => h.endFrame x between) h he

end Sys2Proof.Machine

/-! ### GET_SLOTS, GET_CHANNELS and GET_PATTERNS (R115, R169, R170, section 11.4) -/

namespace Sys2Proof.Machine

open Sys2Proof

/-! #### The entries of a range, in order -/

/-- The entries `first` to `first + count - 1` of a table, ascending. -/
def entriesOf (n first count : Nat) : List (Fin n) :=
  (List.finRange n).filter fun k => decide (first ≤ k.val) && decide (k.val < first + count)

theorem entriesOf_numbers {n first count : Nat} (fits : first + count ≤ n) :
    (entriesOf n first count).map Fin.val = List.range' first count := by
  have ascending : ((entriesOf n first count).map Fin.val).Pairwise (· < ·) := by
    rw [List.pairwise_map]
    exact (List.pairwise_lt_finRange n).filter _
  refine ascending.eq_of_mem_iff List.pairwise_lt_range' fun i => ?_
  simp only [entriesOf, List.mem_map, List.mem_filter, List.mem_finRange, true_and, Bool.and_eq_true,
    decide_eq_true_eq, List.mem_range'_1]
  exact ⟨fun ⟨k, inside, e⟩ => e ▸ inside, fun inside => ⟨⟨i, by omega⟩, inside, rfl⟩⟩

theorem entriesOf_length {n first count : Nat} (fits : first + count ≤ n) :
    (entriesOf n first count).length = count := by
  simpa using congrArg List.length (entriesOf_numbers fits)

/-- Entry `k` of a table stands at its distance from the first of the range. -/
theorem getElem?_entriesOf {n first count : Nat} (fits : first + count ≤ n) {k : Fin n}
    (from_ : first ≤ k.val) (below : k.val < first + count) : (entriesOf n first count)[k.val - first]? = some k := by
  have numbered := congrArg (·[k.val - first]?) (entriesOf_numbers fits)
  refine Option.map_injective Fin.val_injective ?_
  simp only [List.getElem?_map] at numbered
  rw [numbered, List.getElem?_range' (by omega)]
  simp [from_]

/-- Two bytes for each entry stand side by side. -/
theorem getElem?_flatMap_pair {α β : Type} (f g : α → β) (l : List α) (i : Nat) :
    (l.flatMap fun a => [f a, g a])[2 * i]? = l[i]?.map f
      ∧ (l.flatMap fun a => [f a, g a])[2 * i + 1]? = l[i]?.map g := by
  induction l generalizing i with
  | nil => simp
  | cons a l ih =>
    cases i with
    | zero => simp
    | succ i => simpa [Nat.mul_add] using ih i

/-! #### The bytes of an entry -/

/-- Two neighbouring flags in a byte, from bit `n` up. -/
theorem packBits_pair (n : Nat) (a b : Bool) : 2 ^ n * packBits [a, b] = bitAt a n + bitAt b (n + 1) := by
  cases a <;> cases b <;> simp [packBits, bitAt, pow_succ]
  omega

theorem bitAt_le (b : Bool) (n : Nat) : bitAt b n ≤ 2 ^ n := by
  unfold bitAt
  split <;> simp

theorem Ownership.code_le (o : Ownership) : o.code ≤ 2 := by cases o <;> decide

theorem ChanState.code_le (c : ChanState) : c.code ≤ 4 := by cases c <;> decide

/-- The byte of slot `k`: ownership, level and latch (R169). -/
theorem slotByte_toNat (s : State) (k : Fin 48) :
    (slotByte s k).toNat =
      (s.slots.get k).own.code + bitAt ((s.slots.get k).level == .asserted) 2
        + bitAt (s.slots.get k).latch 3 := by
  have flags : 4 * packBits [(s.slots.get k).level.bit, (s.slots.get k).latch] =
      bitAt (s.slots.get k).level.bit 2 + bitAt (s.slots.get k).latch 3 := packBits_pair 2 _ _
  have own := (s.slots.get k).own.code_le
  have level := bitAt_le (s.slots.get k).level.bit 2
  have latch := bitAt_le (s.slots.get k).latch 3
  rw [slotByte, byteOf_toNat (by omega), ← Level.bit_eq]
  omega

/-- The second byte of channel `c`: state, levels and the length of its pending list (R169). -/
theorem chanByte_toNat {ch : Channel} (short : ch.pending.length ≤ 2) :
    (byteOf (ch.state.code + 8 * packBits [ch.level.bit, ch.sent.bit] + 32 * ch.pending.length)).toNat =
      ch.state.code + bitAt (ch.level == .asserted) 3 + bitAt (ch.sent == .asserted) 4
        + 32 * ch.pending.length := by
  have flags : 8 * packBits [ch.level.bit, ch.sent.bit] = bitAt ch.level.bit 3 + bitAt ch.sent.bit 4 :=
    packBits_pair 3 _ _
  have state := ch.state.code_le
  have level := bitAt_le ch.level.bit 3
  have sent := bitAt_le ch.sent.bit 4
  rw [byteOf_toNat (by omega), ← Level.bit_eq, ← Level.bit_eq]
  omega

/-- The byte of pattern `p`: progress, match latch and output (R115, R170). -/
theorem patternByte_toNat {s : State} {p : Fin 8} (early : (s.patterns.get p).progress ≤ 5) :
    (patternByte s p).toNat =
      (s.patterns.get p).progress + bitAt (s.patterns.get p).latch 3
        + bitAt ((s.patterns.get p).output == .asserted) 4 := by
  have flags : 8 * packBits [(s.patterns.get p).latch, (s.patterns.get p).output.bit] =
      bitAt (s.patterns.get p).latch 3 + bitAt (s.patterns.get p).output.bit 4 := packBits_pair 3 _ _
  have latch := bitAt_le (s.patterns.get p).latch 3
  have output := bitAt_le (s.patterns.get p).output.bit 4
  rw [patternByte, byteOf_toNat (by omega), ← Level.bit_eq]
  omega

/-! #### The requests -/

section Requests

variable {s : State} {first count : Byte}

theorem exec_getSlots (on : s.station.onLine = true) (tag : Byte)
    (accepted : rangeAccepted 48 16 first count = true) :
    exec (.getSlots ⟨portAddress s, [tag, first, count]⟩) s =
      .next
        { s with
          journal := s.journal.released
          port := s.port.answered 4 tag .ok false
            ((entriesOf 48 first.toNat count.toNat).map (slotByte s)) } :=
  congrArg Host.Outcome.next ((addressed_accepted on (judgeRequest_accepted (code := .getSlots)
    (ops := [first, count]) rfl accepted tag) actGetSlots).trans (answer_asked tag _ 4 s.slots s))

theorem exec_getChannels (on : s.station.onLine = true) (tag : Byte)
    (accepted : rangeAccepted 16 16 first count = true) :
    exec (.getChannels ⟨portAddress s, [tag, first, count]⟩) s =
      .next
        { s with
          journal := s.journal.released
          port := s.port.answered 4 tag .ok false
            ((entriesOf 16 first.toNat count.toNat).flatMap (chanBytes s)) } :=
  congrArg Host.Outcome.next ((addressed_accepted on (judgeRequest_accepted (code := .getChannels)
    (ops := [first, count]) rfl accepted tag) actGetChannels).trans (answer_asked tag _ 4 s.slots s))

theorem exec_getPatterns (on : s.station.onLine = true) (tag : Byte) :
    exec (.getPatterns ⟨portAddress s, [tag]⟩) s =
      .next
        { s with
          journal := s.journal.released
          port := s.port.answered 2 tag .ok false ((List.finRange 8).map (patternByte s)) } :=
  congrArg Host.Outcome.next ((addressed_accepted on (judgeRequest_accepted rfl rfl tag)
    actGetPatterns).trans (answer_asked tag _ 2 s.slots s))

end Requests

/-- Settles O44: the data are the entries of the range in order, each with the bytes of its own record. -/
theorem snapshotRequests : Obligations.SnapshotRequests := by
  intro s tag first count on bit next
  refine ⟨fun inside some_slot few fits => ?_, fun inside some_chan few fits => ?_, ?_⟩
  · refine ⟨_, exec_getSlots on tag (rangeAccepted_of inside some_slot few fits), ?_, fun k from_ below => ?_⟩
    · rw [List.length_map, entriesOf_length fits]
    · rw [List.getElem?_map, getElem?_entriesOf fits from_ below]
      exact congrArg some (slotByte_toNat s k)
  · refine ⟨_, exec_getChannels on tag (rangeAccepted_of inside some_chan few fits), ?_,
      fun c from_ below => ?_⟩
    · rw [List.length_flatMap]
      simp [chanBytes, entriesOf_length fits, Nat.mul_comm]
    · obtain ⟨slot, rest⟩ := getElem?_flatMap_pair
        (fun c => byteOf (s.profile.chans.get c).slot.val)
        (fun c => byteOf ((s.chans.get c).state.code
          + 8 * packBits [(s.chans.get c).level.bit, (s.chans.get c).sent.bit]
          + 32 * (s.chans.get c).pending.length))
        (entriesOf 16 first.toNat count.toNat) (c.val - first.toNat)
      rw [getElem?_entriesOf fits from_ below] at slot rest
      refine ⟨?_, fun short => ?_⟩
      · exact (congrArg (Option.map BitVec.toNat) slot).trans (congrArg some (slotNumber_toNat _))
      · exact (congrArg (Option.map BitVec.toNat) rest).trans (congrArg some (chanByte_toNat short))
  · refine ⟨_, exec_getPatterns on tag, by simp, fun p early => ?_⟩
    rw [List.getElem?_map, List.getElem?_eq_getElem (by simp), List.getElem_finRange]
    exact congrArg some (patternByte_toNat early)

end Sys2Proof.Machine

/-! ### A profile from its image (R92, R130, R154, R177, section 11.2) -/

namespace Sys2Proof.Machine

open Sys2Proof

/-- What a decoder of 329 bytes makes of each part of them (section 11.2). -/
structure PartsDecode (byte : Nat → Byte) (p : Profile) : Prop where
  refresh : p.refresh = (byte 0).toNat
  quiet : p.quiet = (byte 1).toNat
  attn : ∀ c : Fin 7, p.attnMask.get c = (byte 2).getLsbD c.val
  wake : ∀ c : Fin 7, p.wakeMask.get c = (byte 3).getLsbD c.val
  polarity : ∀ n : Fin 2, p.indPolarity.get n = decodePolarity ((byte 4).getLsbD n.val)
  slots : ∀ k : Fin 48, decodeSlot (byte (5 + k.val)) = some (p.slots.get k)
  chans : ∀ c : Fin 16, decodeChan (byte (53 + 2 * c.val)) (byte (54 + 2 * c.val)) = some (p.chans.get c)
  inputs : ∀ i : Fin 12, decodeInput (byte (85 + i.val)) = some (p.inputs.get i)
  patterns : ∀ q : Fin 8, decodePattern (fun i => byte (97 + 26 * q.val + i)) = some (p.patterns.get q)
  rules : ∀ (n : Fin 2) (e : Fin 6),
    decodeRule (byte (305 + 12 * n.val + 2 * e.val)) (byte (306 + 12 * n.val + 2 * e.val)) =
      some ((p.rules.get n).get e)
  long_quiet : 5 ≤ (byte 1).toNat
  distinct : slotsDistinct p.chans = true

/-- A profile is read exactly when each of its parts is, with the quiet interval and the slots checked
(R154). -/
theorem decodeProfile_eq_some {image : List Byte} {p : Profile} :
    decodeProfile image = some p ↔ PartsDecode (fun i => image.getD i 0) p := by
  constructor
  · intro decoded
    unfold decodeProfile at decoded
    dsimp only at decoded
    split at decoded
    · next slots chans inputs patterns rules =>
      split at decoded
      · next checked =>
        cases decoded
        exact
          { refresh := rfl, quiet := rfl, attn := by simp, wake := by simp, polarity := by simp
            slots := tabOption_eq_some.mp slots, chans := tabOption_eq_some.mp chans
            inputs := tabOption_eq_some.mp inputs, patterns := tabOption_eq_some.mp patterns
            rules := fun n => tabOption_eq_some.mp (tabOption_eq_some.mp rules n)
            long_quiet := checked.1, distinct := checked.2 }
      · cases decoded
    · cases decoded
  · intro parts
    have rules := tabOption_eq_some (d := fallbackProfile.rules.get 1).mpr fun n =>
      tabOption_eq_some (d := (fallbackProfile.rules.get 0).get 1).mpr (parts.rules n)
    simp only [decodeProfile, tabOption_eq_some.mpr parts.slots, tabOption_eq_some.mpr parts.chans,
      tabOption_eq_some.mpr parts.inputs, tabOption_eq_some.mpr parts.patterns, rules,
      if_pos (And.intro parts.long_quiet parts.distinct)]
    obtain ⟨refresh, quiet, attnMask, wakeMask, indPolarity, slots, chans, inputs, patterns, rules⟩ := p
    obtain ⟨rfl, rfl, attn, wake, polarity, -⟩ := parts
    have attn : (tab fun c : Fin 7 => (image.getD 2 0).getLsbD c.val) = attnMask :=
      tab_ext fun c => (get_tab _ c).trans (attn c).symm
    have wake : (tab fun c : Fin 7 => (image.getD 3 0).getLsbD c.val) = wakeMask :=
      tab_ext fun c => (get_tab _ c).trans (wake c).symm
    have polarity : (tab fun n : Fin 2 => decodePolarity ((image.getD 4 0).getLsbD n.val)) = indPolarity :=
      tab_ext fun n => (get_tab _ n).trans (polarity n).symm
    rw [attn, wake, polarity]

/-- No two enabled channels name the same slot (R154). -/
theorem slotsDistinct_iff {chans : Vector ChanCfg 16} :
    slotsDistinct chans = true ↔
      ∀ c d, (chans.get c).enable = true → (chans.get d).enable = true →
        (chans.get c).slot = (chans.get d).slot → c = d := by
  refine ⟨fun h c d => eq_of_slotsDistinct h, fun h => ?_⟩
  simp only [slotsDistinct, List.all_eq_true, List.mem_finRange, true_imp_iff, Bool.or_eq_true,
    decide_eq_true_eq, Bool.not_eq_true', decide_eq_false_iff_not]
  intro c d
  by_contra apart
  simp only [not_or, Bool.not_eq_false, not_not] at apart
  obtain ⟨⟨⟨ne, enable_c⟩, enable_d⟩, same⟩ := apart
  exact ne (h c d enable_c enable_d same)

/-- The parts of a profile decode exactly when they pass their checks and read as its fields (R154, R177). -/
theorem partsDecode_iff {image : List Byte} {p : Profile} :
    PartsDecode (fun i => image.getD i 0) p ↔ ProfilePasses image ∧ ProfileReads image p := by
  have distinct (reads : ∀ c : Fin 16, ChanReads (image.getD (53 + 2 * c.val) 0)
      (image.getD (54 + 2 * c.val) 0) (p.chans.get c)) :
      slotsDistinct p.chans = true ↔
        ∀ c d : Fin 16, c ≠ d → (image.getD (53 + 2 * c.val) 0).getLsbD 7 = true →
          (image.getD (53 + 2 * d.val) 0).getLsbD 7 = true →
          fieldOf (image.getD (53 + 2 * c.val) 0) 0 6 ≠ fieldOf (image.getD (53 + 2 * d.val) 0) 0 6 := by
    rw [slotsDistinct_iff]
    refine forall₂_congr fun c d => ?_
    obtain ⟨slot_c, -, enable_c, -⟩ := reads c
    obtain ⟨slot_d, -, enable_d, -⟩ := reads d
    rw [← slot_c, ← slot_d, ← enable_c, ← enable_d, ne_eq, ne_eq, Fin.val_inj]
    tauto
  constructor
  · intro parts
    have slots k := decodeSlot_eq_some.mp (parts.slots k)
    have chans c := decodeChan_eq_some.mp (parts.chans c)
    have inputs i := decodeInput_eq_some.mp (parts.inputs i)
    have patterns q := decodePattern_eq_some.mp (parts.patterns q)
    have rules n e := decodeRule_eq_some.mp (parts.rules n e)
    exact ⟨⟨parts.long_quiet, fun k => (slots k).1, fun c => (chans c).1,
        (distinct fun c => (chans c).2).mp parts.distinct, fun i => (inputs i).1,
        fun q => (patterns q).1, fun e => ⟨(rules 0 e).1, (rules 1 e).1⟩⟩,
      parts.refresh, parts.quiet, fun c => ⟨parts.attn c, parts.wake c⟩, parts.polarity,
      fun k => (slots k).2, fun c => (chans c).2, fun i => (inputs i).2, fun q => (patterns q).2,
      fun e => ⟨(rules 0 e).2, (rules 1 e).2⟩⟩
  · rintro ⟨⟨long_quiet, slots, chans, apart, inputs, patterns, rules⟩, refresh, quiet, masks, polarity,
      slots', chans', inputs', patterns', rules'⟩
    exact
      { refresh, quiet, polarity, long_quiet
        attn := fun c => (masks c).1, wake := fun c => (masks c).2
        slots := fun k => decodeSlot_eq_some.mpr ⟨slots k, slots' k⟩
        chans := fun c => decodeChan_eq_some.mpr ⟨chans c, chans' c⟩
        inputs := fun i => decodeInput_eq_some.mpr ⟨inputs i, inputs' i⟩
        patterns := fun q => decodePattern_eq_some.mpr ⟨patterns q, patterns' q⟩
        rules := Fin.forall_fin_two.mpr
          ⟨fun e => decodeRule_eq_some.mpr ⟨(rules e).1, (rules' e).1⟩,
            fun e => decodeRule_eq_some.mpr ⟨(rules e).2, (rules' e).2⟩⟩
        distinct := (distinct chans').mpr apart }

/-- A profile is read exactly when every check passes and each field is its own bits' (R154, R177). -/
theorem decodeProfile_iff {image : List Byte} {p : Profile} :
    decodeProfile image = some p ↔ ProfilePasses image ∧ ProfileReads image p :=
  decodeProfile_eq_some.trans partsDecode_iff

/-! #### Every image that passes reads as a profile -/

/-- A table whose entries all exist. -/
theorem exists_table {α : Type} {n : Nat} {P : Fin n → α → Prop} (h : ∀ i, ∃ a, P i a) :
    ∃ v : Vector α n, ∀ i, P i (v.get i) := by
  choose f reads using h
  exact ⟨tab f, fun i => by rw [get_tab]; exact reads i⟩

theorem exists_chanReads {b0 b1 : Byte} (passes : ChanPasses b0 b1) : ∃ cfg, ChanReads b0 b1 cfg := by
  obtain ⟨slot, -⟩ := passes
  have source : ∃ src, SourceReads (fieldOf b1 0 3) (fieldOf b1 4 4) src := by
    by_cases named : NamesSource (fieldOf b1 0 3) (fieldOf b1 4 4)
    · exact namesSource_reads named
    · exact ⟨.unnamed (BitVec.ofNat 3 (fieldOf b1 0 3)) (BitVec.ofNat 4 (fieldOf b1 4 4)), named,
        (Nat.mod_eq_of_lt (fieldOf_lt b1 0 3)).symm, (Nat.mod_eq_of_lt (fieldOf_lt b1 4 4)).symm⟩
  obtain ⟨source, reads⟩ := source
  exact ⟨{ enable := b0.getLsbD 7, slot := ⟨_, slot⟩, source, invert := b0.getLsbD 6 }, rfl, rfl, rfl, reads⟩

theorem exists_stepReads {kind slot time : Nat} (passes : StepPasses kind slot time) (window : Nat) :
    ∃ st, StepReads kind slot window time st := by
  obtain ⟨known, inside, -⟩ := passes
  interval_cases kind
  · exact ⟨.rise ⟨slot, inside (by decide)⟩ window, rfl, rfl, rfl⟩
  · exact ⟨.fall ⟨slot, inside (by decide)⟩ window, rfl, rfl, rfl⟩
  · exact ⟨.anyRise window, rfl, rfl⟩
  · exact ⟨.hold ⟨slot, inside (by decide)⟩ window time, rfl, rfl, rfl, rfl⟩
  · exact ⟨.quiet time, rfl, rfl⟩

theorem exists_patternReads {byte : Nat → Byte} (passes : PatternPasses byte) :
    ∃ cfg, PatternReads byte cfg := by
  obtain ⟨-, each⟩ := passes
  have steps (k : Fin (fieldOf (byte 0) 0 3)) := exists_stepReads (each k k.isLt) (byte (4 + 4 * k)).toNat
  choose step reads using steps
  refine ⟨{ strict := !(byte 0).getLsbD 3, action := decodeAction (fieldOf (byte 0) 4 2)
            attn := (byte 1).getLsbD 0, wake := (byte 1).getLsbD 1, journal := (byte 1).getLsbD 2
            steps := List.ofFn step }, rfl, rfl, rfl, rfl, rfl, by simp, fun k st at_k => ?_⟩
  obtain ⟨below, rfl⟩ := List.getElem?_eq_some_iff.mp at_k
  rw [List.getElem_ofFn]
  exact reads ⟨k, by simpa using below⟩

theorem exists_ruleReads {b0 b1 : Byte} (passes : RulePasses b0 b1) : ∃ r, RuleReads b0 b1 r := by
  obtain ⟨kind, -⟩ := passes
  have cond : ∃ c, CondReads (fieldOf b0 0 3) b1.toNat c := by
    rcases kind with kind | kind | ⟨kind | kind, inside⟩ | ⟨kind, inside⟩ | ⟨kind, inside⟩ | ⟨kind, inside⟩
    · exact ⟨.none, kind⟩
    · exact ⟨.always, kind⟩
    · exact ⟨.slotAsserted ⟨_, inside⟩, kind, rfl⟩
    · exact ⟨.latch ⟨_, inside⟩, kind, rfl⟩
    · exact ⟨.matched ⟨_, inside⟩, kind, rfl⟩
    · exact ⟨.condition ⟨_, inside⟩, kind, rfl⟩
    · generalize b1.toNat = operand at inside
      interval_cases operand
      exacts [⟨.host .run, kind, rfl⟩, ⟨.host .sleep, kind, rfl⟩, ⟨.host .off, kind, rfl⟩]
  obtain ⟨cond, reads⟩ := cond
  exact ⟨{ cond, display := _ }, reads, rfl⟩

/-- Each field of an image that passes has a reading (R154, R177). -/
theorem exists_profileReads {image : List Byte} (passes : ProfilePasses image) :
    ∃ p, ProfileReads image p := by
  obtain ⟨-, -, chans, -, -, patterns, rules⟩ := passes
  obtain ⟨chans, chans_read⟩ := exists_table fun c => exists_chanReads (chans c)
  obtain ⟨patterns, patterns_read⟩ := exists_table fun q => exists_patternReads (patterns q)
  obtain ⟨rules0, rules0_read⟩ := exists_table fun e => exists_ruleReads (rules e).1
  obtain ⟨rules1, rules1_read⟩ := exists_table fun e => exists_ruleReads (rules e).2
  obtain ⟨slots, slots_read⟩ := exists_table fun k : Fin 48 =>
    (⟨_, rfl⟩ : ∃ cfg, SlotReads (image.getD (5 + k.val) 0) cfg)
  obtain ⟨inputs, inputs_read⟩ := exists_table fun i : Fin 12 =>
    (⟨_, rfl⟩ : ∃ cfg, InputReads (image.getD (85 + i.val) 0) cfg)
  refine ⟨{ refresh := (image.getD 0 0).toNat, quiet := (image.getD 1 0).toNat
            attnMask := tab fun c => (image.getD 2 0).getLsbD c.val
            wakeMask := tab fun c => (image.getD 3 0).getLsbD c.val
            indPolarity := tab fun n => decodePolarity ((image.getD 4 0).getLsbD n.val)
            slots, chans, inputs, patterns
            rules := tab fun n => if n = 0 then rules0 else rules1 },
    rfl, rfl, fun c => ⟨get_tab _ c, get_tab _ c⟩, fun n => get_tab _ n, slots_read, chans_read,
    inputs_read, patterns_read, fun e => ⟨?_, ?_⟩⟩
  · rw [get_tab]
    exact rules0_read e
  · rw [get_tab]
    exact rules1_read e

/-! #### What holds of every profile read from an image -/

/-- The times of a step are bytes, and no hold or quiet time is 0 (R92). -/
def Step.TimesFit : Step → Prop
  | .rise _ w | .fall _ w | .anyRise w => w ≤ 255
  | .hold _ w time => w ≤ 255 ∧ 1 ≤ time ∧ time ≤ 255
  | .quiet time => 1 ≤ time ∧ time ≤ 255

theorem timesFit_of_reads {kind slot window time : Byte} {st : Step}
    (passes : StepPasses kind.toNat slot.toNat time.toNat)
    (reads : StepReads kind.toNat slot.toNat window.toNat time.toNat st) : st.TimesFit := by
  have window_lt := window.isLt
  have time_lt := time.isLt
  obtain ⟨-, -, timed⟩ := passes
  cases st <;> simp only [StepReads, Step.TimesFit] at reads ⊢ <;> omega

/-- Settles O13: the decoder's parts, each by its own equivalence, and the ranges of their fields. -/
theorem decodedProfilesValid : Obligations.DecodedProfilesValid := by
  refine ⟨fun image p _ => decodeProfile_iff, fun image _ passes => ?_, fun image p decoded => ?_⟩
  · obtain ⟨p, reads⟩ := exists_profileReads passes
    exact ⟨p, decodeProfile_iff.mpr ⟨passes, reads⟩⟩
  · have distinct := slotsDistinct_iff.mp (decodeProfile_distinct decoded)
    obtain ⟨passes, reads⟩ := decodeProfile_iff.mp decoded
    obtain ⟨long_quiet, -, chans, -, inputs, patterns, -⟩ := passes
    obtain ⟨refresh, quiet, -, -, -, chans', inputs', patterns', -⟩ := reads
    have refresh_lt := (image.getD 0 0).isLt
    have quiet_lt := (image.getD 1 0).isLt
    refine ⟨quiet ▸ long_quiet, by omega, by omega, distinct, fun c kind index unnamed => ?_, fun i => ?_,
      fun q => ?_, fun q st mem => ?_⟩
    · obtain ⟨-, named⟩ := chans c
      obtain ⟨-, -, enable, source⟩ := chans' c
      rw [unnamed] at source
      rw [enable, Bool.eq_false_iff]
      exact fun on => source.1 (named on)
    · rw [inputs' i]
      dsimp only
      split <;> simp
    · obtain ⟨few, -⟩ := patterns q
      obtain ⟨-, -, -, -, -, length, -⟩ := patterns' q
      rw [length]
      exact few
    · obtain ⟨-, passes⟩ := patterns q
      obtain ⟨-, -, -, -, -, length, reads⟩ := patterns' q
      obtain ⟨k, at_k⟩ := List.getElem?_of_mem mem
      have below := (List.getElem?_eq_some_iff.mp at_k).1
      have fit := timesFit_of_reads (passes k (length ▸ below)) (reads k st at_k)
      cases st <;> exact fit

end Sys2Proof.Machine

/-! ### ATTN, WAKE and the indicators (R123, R124, R126, R130 to R134) -/

namespace Sys2Proof.Machine

open Sys2Proof

/-! #### The summaries and their pins (R123, R124, R126) -/

theorem attentionSummary_iff (s : State) :
    attentionSummary s = true ↔
      (∃ k, (s.slots.get k).latch = true ∧ (s.profile.slots.get k).attn = true)
        ∨ (∃ c, s.conds.get c = true ∧ s.profile.attnMask.get c = true)
        ∨ ∃ p, (s.patterns.get p).latch = true ∧ (s.profile.patterns.get p).attn = true := by
  simp [attentionSummary, or_assoc]

theorem wakeSummary_iff (s : State) :
    wakeSummary s = true ↔
      (∃ k, (s.slots.get k).latch = true ∧ (s.profile.slots.get k).wake = true)
        ∨ (∃ c, s.conds.get c = true ∧ s.profile.wakeMask.get c = true)
        ∨ ∃ p, (s.patterns.get p).latch = true ∧ (s.profile.patterns.get p).wake = true := by
  simp [wakeSummary, or_assoc]

theorem attnAsserted_iff (s : State) :
    attnAsserted s = true ↔
      s.station.onLine = true ∧ hostPower s = .run ∧ attentionSummary s = true := by
  simp [attnAsserted, and_assoc]

theorem wakeAsserted_iff (s : State) :
    wakeAsserted s = true ↔
      s.station.onLine = true ∧ hostPower s ≠ .run ∧ wakeSummary s = true := by
  simp [wakeAsserted, and_assoc]

/-- The host is asleep or off in every host power state but RUN (R126). -/
theorem HostPower.ne_run_iff (h : HostPower) : h ≠ .run ↔ h = .sleep ∨ h = .off := by
  cases h <;> decide

/-- Settles O40: each pin waits for the line, and the host power state lets at most one of them speak. -/
theorem attnAndWake : Obligations.AttnAndWake := by
  intro s
  refine ⟨fun on => ⟨?attn, ?wake⟩, fun off => ?released, ?apart, rfl, rfl,
    attentionSummary_iff s, wakeSummary_iff s⟩
  case attn => rw [attnAsserted_iff, and_iff_right on]
  case wake => rw [wakeAsserted_iff, and_iff_right on, HostPower.ne_run_iff]
  case released =>
    have off : s.station.onLine = false := by rcases off with e | e <;> rw [e] <;> rfl
    simp [attnAsserted, wakeAsserted, off]
  case apart =>
    rw [attnAsserted_iff, wakeAsserted_iff]
    exact fun ⟨⟨_, run, _⟩, ⟨_, notRun, _⟩⟩ => notRun run

/-! #### The rule that selects a display (R131, R132) -/

theorem selectedDisplay_of_offLine {s : State} (off : s.station.onLine = false) (n : Fin 2) :
    selectedDisplay s n = .off := by
  simp [selectedDisplay, off]

theorem selectedDisplay_of_none {s : State} {n : Fin 2}
    (fails : ∀ e, condHolds s ((s.profile.rules.get n).get e).cond = false) :
    selectedDisplay s n = .off := by
  have search : ((List.finRange 6).find? fun e =>
      condHolds s ((s.profile.rules.get n).get e).cond) = none :=
    List.find?_eq_none.mpr fun e _ => by simp [fails e]
  simp [selectedDisplay, search]

theorem selectedDisplay_of_first {s : State} {n : Fin 2} {e : Fin 6}
    (on : s.station.onLine = true) (holds : condHolds s ((s.profile.rules.get n).get e).cond = true)
    (first : ∀ d, d < e → condHolds s ((s.profile.rules.get n).get d).cond = false) :
    selectedDisplay s n = ((s.profile.rules.get n).get e).display := by
  have search : ((List.finRange 6).find? fun d =>
      condHolds s ((s.profile.rules.get n).get d).cond) = some e := by
    rw [← List.ofFn_id, List.find?_ofFn_eq_some]
    exact ⟨holds, e, rfl, fun d before => by simp [first d before]⟩
  simp [selectedDisplay, on, search]

/-! #### The lamp (R130, R133, R134) -/

theorem exec_blinkPhaseCrossing {s : State} (runs : s.blink.running = true) (phase : Fin 2000) :
    exec (.blinkPhaseCrossing phase) s =
      .next { s with blink := { running := true, phase := phase } } := by
  refine congrArg Host.Outcome.next ((if_pos runs).trans ?_)
  simp only [State.setBlink, runs]

theorem indicatorPin_of_offLine {s : State} (off : s.station.onLine = false) (n : Fin 2) :
    indicatorPin s n = .undriven := by
  simp [indicatorPin, off]

/-- On the line the pin is high when lit and polarity agree, and low when they do not (R130). -/
theorem indicatorPin_of_onLine {s : State} (on : s.station.onLine = true) (n : Fin 2) :
    indicatorPin s n =
      if lit s n = true ↔ s.profile.indPolarity.get n = .activeHigh then .high else .low := by
  simp only [indicatorPin, if_pos on]
  cases s.profile.indPolarity.get n <;> cases lit s n <;> simp

theorem Polarity.activeLow_iff (p : Polarity) : p = .activeLow ↔ p ≠ .activeHigh := by
  cases p <;> decide

/-- Settles O39: the conditions one by one, the rule that is found first, and the lamp at its pin. -/
theorem blinkAndIndicators : Obligations.BlinkAndIndicators := by
  refine ⟨fun s => ⟨rfl, rfl, ?slot, fun k => .rfl, fun p => .rfl, fun c => .rfl, ?host⟩,
    fun s phase => ⟨fun runs => exec_blinkPhaseCrossing runs phase, ?offLine,
      fun n e on holds first => selectedDisplay_of_first on holds first,
      fun n _ fails => selectedDisplay_of_none fails, ?lit, fun n on => ?pin⟩⟩
  case slot => exact fun k => beq_iff_eq
  case host => exact fun h => beq_iff_eq
  case offLine => exact fun n off => ⟨selectedDisplay_of_offLine off n, indicatorPin_of_offLine off n⟩
  case lit =>
    intro n
    unfold lit litAt
    cases selectedDisplay s n <;> simp
  case pin =>
    have differ : (lit s n = true ↔ s.profile.indPolarity.get n = .activeLow) ↔
        ¬ (lit s n = true ↔ s.profile.indPolarity.get n = .activeHigh) := by
      rw [Polarity.activeLow_iff]
      tauto
    rw [indicatorPin_of_onLine on, differ]
    split <;> simp [*]

end Sys2Proof.Machine

/-! ### The records that the journal takes, and its law (R138 to R146)

Outside the host port and the resets, every event leaves the hand-over alone and lets the journal take records
one after another. The law is therefore shown once for one record, and then for what the port does: marking,
removing, and unmarking. -/

namespace Sys2Proof.Machine

open Sys2Proof

/-! #### One record (R139 to R141) -/

/-- The record that the journal stores next for `body` (R139, R141). -/
def Journal.record (j : Journal) (body : RecordBody) : Record where
  seq := j.seq
  body := body
  lost := if j.lost = 0 then none else some j.lost

theorem taking_of_room {j : Journal} (room : j.records.length < 32) (body : RecordBody) :
    j.taking body =
      { records := j.records ++ [j.record body], seq := j.seq + 1, lost := 0, handed := j.handed } :=
  if_pos room

theorem taking_of_full {j : Journal} (full : 32 ≤ j.records.length) (body : RecordBody) :
    j.taking body = { j with seq := j.seq + 1, lost := j.lost + 1 } :=
  if_neg full.not_gt

/-- Stored or lost, a record spends one sequence number and leaves the hand-over count (R139, R144). -/
theorem taking_seq_handed (j : Journal) (body : RecordBody) :
    (j.taking body).seq = j.seq + 1 ∧ (j.taking body).handed = j.handed := by
  unfold Journal.taking
  split <;> exact ⟨rfl, rfl⟩

/-- A latch that is set already moves no channel (R74, R118). -/
theorem setCond_of_set {c : Fin 7} {s : State} (set : s.conds.get c = true) : setCond c s = s :=
  if_pos set

/-- Settles O51: a record is stored with the lost count, or counted lost when 32 are held. -/
theorem recordsGenerated : Obligations.RecordsGenerated := by
  intro s body t
  have journal : t.journal = s.journal.taking body := generate_journal body s
  obtain ⟨seq, handed⟩ := taking_seq_handed s.journal body
  refine ⟨journal ▸ seq, fun room => ?_, fun full => ?_, journal ▸ handed⟩
  · have stored := generate_stores body s room
    rw [journal, taking_of_room room]
    exact ⟨rfl, rfl, stored⟩
  · have lost := generate_loses body s full.not_gt
    refine ⟨by rw [journal, taking_of_full full], by rw [journal, taking_of_full full],
      by simp [t, lost, setCond_conds], fun set => ?_, by apply State.ext_fields <;> simp [t]⟩
    simp only [t, lost]
    rw [setCond_of_set (by simpa using set)]
    rfl

/-! #### The law of the journal itself -/

/-- The law of the journal's own fields (R138, R140, R144). -/
structure Journal.Lawful (j : Journal) : Prop where
  room : j.records.length ≤ 32
  chain : j.records.IsChain (fun a b => b.Follows a)
  newest : ∀ r, j.records.getLast? = some r → j.seq = r.seq + 1 + j.lost
  counted : ∀ r ∈ j.records, r.lost ≠ some 0
  few : j.handed ≤ 4
  held : j.handed ≤ j.records.length

theorem journalLaw_iff (s : State) :
    s.JournalLaw ↔ s.journal.Lawful ∧ (s.port.handOver = true ↔ 0 < s.journal.handed) :=
  ⟨fun ⟨room, chain, newest, counted, few, held, mark⟩ =>
      ⟨⟨room, chain, newest, counted, few, held⟩, mark⟩,
    fun ⟨⟨room, chain, newest, counted, few, held⟩, mark⟩ =>
      ⟨room, chain, newest, counted, few, held, mark⟩⟩

/-- The lost count of a stored record is the lost counter's value (R141). -/
theorem record_lost_getD (j : Journal) (body : RecordBody) : (j.record body).lost.getD 0 = j.lost := by
  unfold Journal.record
  split
  · next none_lost => exact none_lost.symm
  · rfl

/-- No stored record has a lost count of 0 (R141). -/
theorem record_lost_ne_zero (j : Journal) (body : RecordBody) : (j.record body).lost ≠ some 0 := by
  by_cases none_lost : j.lost = 0 <;> simp [Journal.record, none_lost]

/-- The stored record follows the newest one before it (R140). -/
theorem Journal.Lawful.record_follows {j : Journal} (law : j.Lawful) (body : RecordBody) {r : Record}
    (last : j.records.getLast? = some r) : (j.record body).Follows r := by
  rw [Record.Follows, record_lost_getD]
  exact law.newest r last

/-- A record that is taken keeps the law, stored or lost (R140, R141). -/
theorem Journal.Lawful.taking {j : Journal} (law : j.Lawful) (body : RecordBody) :
    (j.taking body).Lawful := by
  by_cases room : j.records.length < 32
  · rw [taking_of_room room]
    exact {
      room := by simpa using room
      chain := List.isChain_append.mpr ⟨law.chain, .singleton _, fun a last b first => by
        obtain rfl : j.record body = b := by simpa using first
        exact law.record_follows body last⟩
      newest := fun r last => by
        obtain rfl : j.record body = r := by simpa using last
        simp [Journal.record]
      counted := by
        simpa [or_imp, forall_and] using ⟨law.counted, record_lost_ne_zero j body⟩
      few := law.few
      held := law.held.trans (by simp) }
  · rw [taking_of_full (Nat.not_lt.mp room)]
    exact { law with
      newest := fun r last => by
        simp only [law.newest r last]
        ac_rfl }

theorem Journal.Lawful.foldl_taking {j : Journal} (law : j.Lawful) (bodies : List RecordBody) :
    (bodies.foldl Journal.taking j).Lawful := by
  induction bodies generalizing j with
  | nil => exact law
  | cons body bodies ih => exact ih (law.taking body)

theorem foldl_taking_handed (bodies : List RecordBody) (j : Journal) :
    (bodies.foldl Journal.taking j).handed = j.handed := by
  induction bodies generalizing j with
  | nil => rfl
  | cons body bodies ih => rw [List.foldl_cons, ih, (taking_seq_handed j body).2]

/-- At most 4 of the records held may be marked (R144). -/
theorem Journal.Lawful.mark {j : Journal} (law : j.Lawful) {n : Nat} (few : n ≤ 4)
    (held : n ≤ j.records.length) : { j with handed := n }.Lawful :=
  { law with few, held }

theorem Journal.Lawful.released {j : Journal} (law : j.Lawful) : j.released.Lawful :=
  law.mark (Nat.zero_le 4) (Nat.zero_le _)

/-- Records leave at the head, so what is left is a chain with the same newest record (R145). -/
theorem Journal.Lawful.remove {j : Journal} (law : j.Lawful) :
    { j with records := j.records.drop j.handed, handed := 0 }.Lawful where
  room := (List.drop_sublist _ _).length_le.trans law.room
  chain := law.chain.drop _
  newest r last := by
    refine law.newest r ?_
    rw [List.getLast?_drop] at last
    split at last
    · cases last
    · exact last
  counted r mem := law.counted r (List.mem_of_mem_drop mem)
  few := Nat.zero_le 4
  held := Nat.zero_le _

/-! #### Events that leave the hand-over alone -/

/-- From `s` to `t` the journal takes records and nothing else, and the hand-over stands (R139, R144). -/
def TakesRecords (s t : State) : Prop :=
  t.port = s.port ∧ ∃ bodies : List RecordBody, t.journal = bodies.foldl Journal.taking s.journal

namespace TakesRecords

variable {s t u : State}

theorem of_same (journal : t.journal = s.journal) (port : t.port = s.port) : TakesRecords s t :=
  ⟨port, [], journal⟩

theorem refl (s : State) : TakesRecords s s := of_same rfl rfl

theorem trans (first : TakesRecords s t) (second : TakesRecords t u) : TakesRecords s u := by
  obtain ⟨port, bodies, journal⟩ := first
  obtain ⟨port', bodies', journal'⟩ := second
  exact ⟨port'.trans port, bodies ++ bodies', by rw [journal', journal, List.foldl_append]⟩

theorem from_same (h : TakesRecords t u) (journal : t.journal = s.journal) (port : t.port = s.port) :
    TakesRecords s u :=
  (of_same journal port).trans h

theorem generate (body : RecordBody) (s : State) : TakesRecords s (generate body s) :=
  ⟨by simp, [body], generate_journal body s⟩

theorem reportAll (rs : List Report) (s : State) : TakesRecords s (reportAll rs s) :=
  ⟨by simp, bodies rs, reportAll_journal rs s⟩

theorem foldl {α : Type} {f : State → α → State} (each : ∀ s a, TakesRecords s (f s a)) (l : List α)
    (s : State) : TakesRecords s (l.foldl f s) := by
  induction l generalizing s with
  | nil => exact refl s
  | cons a l ih => exact (each s a).trans (ih _)

theorem complete (p : Fin 8) (stamp : Option (BitVec 16)) (s : State) :
    TakesRecords s (complete p stamp s) := by
  have recorded : TakesRecords (setMatchLatch p s) (matchRecord p stamp (setMatchLatch p s)) := by
    unfold matchRecord
    split
    exacts [generate _ _, refl _]
  have latched : TakesRecords s (setMatchLatch p s) := of_same (by simp) (by simp)
  exact (latched.trans recorded).trans (of_same (by simp [Machine.complete]) (by simp [Machine.complete]))

theorem advance (p : Fin 8) (stamp : Option (BitVec 16)) (s : State) :
    TakesRecords s (advance p stamp s) := by
  unfold Machine.advance
  split
  · exact of_same (by simp) (by simp)
  · exact complete p stamp s

theorem patternTake (p : Fin 8) (tr : Transition) (s : State) : TakesRecords s (patternTake p tr s) := by
  unfold Machine.patternTake
  dsimp only
  split
  · exact refl s
  · split
    case h_2 => exact advance p _ s
    all_goals exact of_same (by simp) (by simp)

/-- A delivery generates the SLOT record and the MATCH records it is due (R47, R109). -/
theorem deliver (tr : Transition) (s : State) : TakesRecords s (deliver tr s) := by
  have latched : TakesRecords s (latchStep tr s) := of_same (by simp) (by simp)
  have recorded : TakesRecords (latchStep tr s) (journalStep tr (latchStep tr s)) :=
    ⟨by simp, _, journalStep_journal tr _⟩
  exact (latched.trans recorded).trans (foldl (fun s p => patternTake p tr s) _ _)

theorem holdExpires (p : Fin 8) (s : State) : TakesRecords s (holdExpires p s) := by
  unfold Machine.holdExpires
  (repeat' split)
  · exact advance p none s
  · exact of_same (by simp) (by simp)
  all_goals exact refl s

theorem quietExpires (p : Fin 8) (s : State) : TakesRecords s (quietExpires p s) := by
  unfold Machine.quietExpires
  (repeat' split)
  · exact advance p none s
  all_goals exact refl s

theorem stuckExpires (s : State) : TakesRecords s (stuckExpires s) := by
  by_cases due : s.StuckDue
  · by_cases frame : s.lif.line = .frame
    · obtain ⟨rs, n, e, -⟩ := stuckExpires_reports due frame
      rw [e]
      exact (reportAll rs _).from_same (by simp) (by simp)
    · rw [stuckExpires_of_due due, if_neg frame, reportStuck_eq]
      exact (reportAll _ _).from_same rfl rfl
  · rw [stuckExpires_of_not_due due]
    exact refl s

theorem recoveryExpires (s : State) : TakesRecords s (recoveryExpires s) := by
  by_cases due : s.RecoveryDue
  · rw [recoveryExpires_of_due due]
    exact (generate _ _).from_same rfl rfl
  · rw [recoveryExpires_of_not_due due]
    exact refl s

theorem endVoid (s : State) : TakesRecords s (endVoid s) := by
  obtain ⟨rs, n, e, -⟩ := endVoid_reports s
  rw [e]
  exact (reportAll rs _).from_same (by simp [State.voided]) (by simp [State.voided])

/-- The census generates the CLAIM records of its conflicts (R28). -/
theorem completeCensus (s : State) : TakesRecords s (completeCensus s) := by
  have reported := reportAll (conflictReports ((conflicting s).map fun c =>
    ((decideClaims s).profile.chans.get c).slot)) (decideClaims s)
  rw [← reportConflicts_eq] at reported
  exact (reported.from_same (by simp) (by simp)).trans
    (of_same (by simp [Machine.completeCensus]) (by simp [Machine.completeCensus]))

theorem censusFrame (s : State) : TakesRecords s (censusFrame s) := by
  have counted : TakesRecords s (countCensus s) := of_same (by simp) (by simp)
  unfold Machine.censusFrame
  dsimp only
  split
  · exact (counted.trans (completeCensus _)).trans (of_same (by simp) (by simp))
  · exact counted.trans (of_same (by simp) (by simp))

/-- The end of LOADING generates the START record (R137). -/
theorem endLoading (p : Profile) (status : ImageStatus) (s : State) :
    TakesRecords s (endLoading p status s) :=
  ⟨by simp, [.start s.cause status], by rw [endLoading_eq_starting, generate_journal]; simp⟩

theorem takeImageByte (b : Byte) (s : State) : TakesRecords s (takeImageByte b s) := by
  rcases takeImageByte_cases b s with ⟨l, e⟩ | ⟨-, l, p, e, -⟩ <;> rw [e]
  · exact of_same rfl rfl
  · exact (endLoading p _ _).from_same rfl rfl

end TakesRecords

end Sys2Proof.Machine

/-! ### Requests, their judgement and the answers to refused ones (R163 to R167, R178) -/

namespace Sys2Proof.Machine

open Sys2Proof

/-! #### A write as a request -/

/-- What an accepted request does; RESTART acts in another way (R160, R168 to R173). -/
def requestAction : RequestCode → Byte → List Byte → State → State
  | .getStatus => actGetStatus
  | .getSlots => actGetSlots
  | .getChannels => actGetChannels
  | .getPatterns => actGetPatterns
  | .readJournal => actReadJournal
  | .ackSlots => actAckSlots
  | .ackConditions => actAckConditions
  | .ackPatterns => actAckPatterns
  | .setSoft => actSetSoft
  | .pulseSoft => actPulseSoft
  | .restart => fun _ _ s => s

theorem takeWrite_unknown {code : Byte} (unknown : RequestCode.ofByte code = none) (rest : List Byte)
    (stn : BitVec 4) (addr : BitVec 2) (s : State) :
    takeWrite code rest stn addr s = takeRequest none rest (fun _ _ s => s) s := by
  simp only [takeWrite, unknown, requestUnknown]

/-- A write that does not restart the station is taken as the request it names (R164, R173). -/
theorem takeWrite_request {code : Byte} {c : RequestCode} (named : RequestCode.ofByte code = some c)
    {rest : List Byte} (stays : ¬ (c = .restart ∧ rest.length = 1)) (stn : BitVec 4) (addr : BitVec 2)
    (s : State) :
    takeWrite code rest stn addr s = takeRequest (some c) rest (requestAction c) s := by
  unfold takeWrite
  rw [named]
  cases c with
  | restart => exact if_neg fun one => stays ⟨rfl, one⟩
  | _ => rfl

/-- A write of RESTART and its tag restarts the station (R160, R173). -/
theorem takeWrite_restart {code : Byte} (named : RequestCode.ofByte code = some .restart)
    {rest : List Byte} (one : rest.length = 1) (stn : BitVec 4) (addr : BitVec 2) (s : State) :
    takeWrite code rest stn addr s = restartStation stn addr s := by
  unfold takeWrite
  rw [named]
  exact if_pos one

/-- A request is refused or it acts, once its write is acknowledged and every hand-over ended (R146, R166,
R167). -/
theorem takeRequest_cases (code : Option RequestCode) (rest : List Byte)
    (act : Byte → List Byte → State → State) (s : State) :
    (∃ why, takeRequest code rest act s = refuse (requestTag rest) why (s.asked (rest.length + 1)))
      ∨ judgeRequest code rest = .ok
        ∧ takeRequest code rest act s = act (requestTag rest) rest.tail (s.asked (rest.length + 1)) := by
  unfold takeRequest
  dsimp only
  split
  · exact .inl ⟨_, rfl⟩
  · split
    · next accepted => exact .inr ⟨accepted, rfl⟩
    · exact .inl ⟨_, rfl⟩

/-- In LOADING every request is answered NOT_READY (R167). -/
theorem takeRequest_notReady {s : State} (loading : s.station = .loading) (code : Option RequestCode)
    (rest : List Byte) (act : Byte → List Byte → State → State) :
    takeRequest code rest act s = refuse (requestTag rest) .notReady (s.asked (rest.length + 1)) := by
  simp [takeRequest, loading, State.asked]

/-- On the line a request is refused as it is judged (R167). -/
theorem takeRequest_refused {s : State} (on : s.station.onLine = true) {code : Option RequestCode}
    {rest : List Byte} {why : Result} (judged : judgeRequest code rest = why) (bad : why ≠ .ok)
    (act : Byte → List Byte → State → State) :
    takeRequest code rest act s = refuse (requestTag rest) why (s.asked (rest.length + 1)) := by
  subst judged
  have loaded := (Station.not_idle_of_onLine on).2
  simp only [takeRequest, endHandOver_keeps, ackWrite_keeps, loaded, if_false]
  rfl

/-! #### The judgement (R167) -/

theorem takesOperands_iff (code : RequestCode) (ops : List Byte) :
    TakesOperands code ops ↔ ops.length = operandCount code := by
  cases code <;> simp [TakesOperands, operandCount]

/-- The mask of ACK_CONDITIONS names no latch above 6 (R171). -/
theorem high_bit_clear_iff (mask : Byte) : mask.getLsbD 7 = false ↔ mask.toNat < 128 := by
  have msb := BitVec.msb_eq_false_iff_two_mul_lt (x := mask)
  rw [BitVec.msb_eq_getLsbD_last] at msb
  exact msb.trans (by omega)

/-- Operands of the right number are accepted by their values (R169 to R172). -/
theorem operandsAccepted_iff {code : RequestCode} {ops : List Byte} (takes : TakesOperands code ops) :
    operandsAccepted code ops = true ↔ AcceptsOperands code ops := by
  cases code with
  | getStatus | getPatterns | restart =>
    obtain rfl : ops = [] := takes
    simp [operandsAccepted, AcceptsOperands]
  | ackConditions =>
    obtain ⟨mask, rfl⟩ := List.length_eq_one_iff.mp takes
    exact (Bool.not_eq_true' _).to_iff.trans (high_bit_clear_iff mask)
  | readJournal | ackPatterns | pulseSoft =>
    obtain ⟨a, rfl⟩ := List.length_eq_one_iff.mp takes
    simp [operandsAccepted, AcceptsOperands]
  | getSlots | getChannels | ackSlots | setSoft =>
    obtain ⟨a, b, rfl⟩ := List.length_eq_two.mp takes
    simp [operandsAccepted, AcceptsOperands, rangeAccepted, and_assoc]

/-- A write of one byte, or of more than eight, is of a bad length (R167). -/
theorem judgeRequest_length {rest : List Byte} (odd : rest = [] ∨ 8 ≤ rest.length)
    (code : Option RequestCode) : judgeRequest code rest = .badLength :=
  if_pos (odd.imp_right fun long => Nat.lt_succ_of_le long)

/-- A code byte that names no request is a bad request (R167, R178). -/
theorem judgeRequest_unknown {rest : List Byte} (some_tag : rest ≠ []) (short : rest.length < 8) :
    judgeRequest none rest = .badRequest :=
  if_neg (not_or.mpr ⟨some_tag, fun long => absurd (Nat.le_of_lt_succ long) short.not_ge⟩)

/-- A wrong number of operands is a bad length (R167). -/
theorem judgeRequest_count {code : RequestCode} {rest : List Byte}
    (other : ¬ TakesOperands code rest.tail) : judgeRequest (some code) rest = .badLength := by
  rw [takesOperands_iff] at other
  unfold judgeRequest
  split
  · rfl
  · exact if_pos other

/-- Operands of the right number with a value that is not accepted are bad (R167). -/
theorem judgeRequest_values {code : RequestCode} {rest : List Byte} (some_tag : rest ≠ [])
    (takes : TakesOperands code rest.tail) (bad : ¬ AcceptsOperands code rest.tail) :
    judgeRequest (some code) rest = .badOperand := by
  have count := (takesOperands_iff code _).mp takes
  have few : operandCount code ≤ 2 := by cases code <;> decide
  have short : ¬ Config.requestMax < rest.length + 1 := by
    rw [List.length_tail] at count
    simp only [Config.requestMax]
    omega
  rw [← operandsAccepted_iff takes] at bad
  unfold judgeRequest
  rw [if_neg (not_or.mpr ⟨some_tag, short⟩)]
  exact (if_neg (not_not.mpr count)).trans (if_neg bad)

/-- What is judged well has operands that the request accepts (R167). -/
theorem acceptsOperands_of_judged {code : RequestCode} {rest : List Byte}
    (accepted : judgeRequest (some code) rest = .ok) : AcceptsOperands code rest.tail := by
  by_contra bad
  have judged : judgeRequest (some code) rest = .badLength
      ∨ judgeRequest (some code) rest = .badOperand := by
    by_cases some_tag : rest = []
    · exact .inl (judgeRequest_length (.inl some_tag) _)
    · by_cases takes : TakesOperands code rest.tail
      · exact .inr (judgeRequest_values some_tag takes bad)
      · exact .inl (judgeRequest_count takes)
  simp [accepted] at judged

/-! #### Responses (R164 to R166) -/

/-- The response to a request that touches the hand-over at most (R144, R166). -/
theorem respond_asked (r : Response) (j : Journal) (bytes : Nat) (s : State) :
    respond r ((s.asked bytes).setJournal j) =
      { s with
        journal := j
        port := s.port.answered bytes r.tag r.result r.carriesRecords r.data } := by
  have acked : min bytes Config.requestMax = if bytes < 8 then bytes else 8 := by
    simp only [Config.requestMax]
    split <;> omega
  apply State.ext_fields <;>
    simp [respond, State.asked, endHandOver, ackWrite, acked, Port.answered]

/-- The station after a request of the bytes `rest` behind its code byte has been refused (R146, R167). -/
def State.refusing (s : State) (rest : List Byte) (why : Result) : State :=
  { s with
    journal := s.journal.released
    port := s.port.answered (rest.length + 1) (rest.headD 0) why false [] }

theorem refuse_asked (why : Result) (rest : List Byte) (s : State) :
    refuse (requestTag rest) why (s.asked (rest.length + 1)) = s.refusing rest why :=
  respond_asked _ s.journal.released _ s

/-! #### Requests that are refused (R163, R164, R166, R167) -/

theorem exec_request (code : RequestCode) (dst : BitVec 7) (rest : List Byte) (stn : BitVec 4)
    (addr : BitVec 2) (s : State) :
    exec (requestCommand code ⟨dst, rest⟩ stn addr) s =
      .next (addressed dst (takeWrite (RequestCode.byte code) rest stn addr) s) :=
  exec_requestCommand (ofByte_requestByte code) _ stn addr s

theorem exec_unknownRequest {b : Byte} (unknown : RequestCode.ofByte b = none) (dst : BitVec 7)
    (rest : List Byte) (s : State) :
    exec (.unknownRequest b ⟨dst, rest⟩) s = .next (addressed dst (requestUnknown rest) s) := by
  simp only [exec, execUnknownRequest, unknown]

section Refused

variable {s : State} {rest : List Byte} {why : Result}

/-- A request that would be answered `why`, whatever it does, is refused so. -/
theorem exec_request_refused {code : RequestCode} (running : s.station ≠ .reset)
    (stays : ¬ (code = .restart ∧ rest.length = 1))
    (refused : ∀ act, takeRequest (some code) rest act s =
      refuse (requestTag rest) why (s.asked (rest.length + 1))) (stn : BitVec 4) (addr : BitVec 2) :
    exec (requestCommand code ⟨portAddress s, rest⟩ stn addr) s = .next (s.refusing rest why) := by
  rw [exec_request, addressed_own _ s running, takeWrite_request (ofByte_requestByte code) stays,
    refused, refuse_asked]

theorem exec_unknown_refused {b : Byte} (unknown : RequestCode.ofByte b = none)
    (running : s.station ≠ .reset)
    (refused : ∀ act, takeRequest none rest act s =
      refuse (requestTag rest) why (s.asked (rest.length + 1))) :
    exec (.unknownRequest b ⟨portAddress s, rest⟩) s = .next (s.refusing rest why) := by
  rw [exec_unknownRequest unknown, addressed_own _ s running, requestUnknown, refused, refuse_asked]

end Refused

/-- A RESTART of its two bytes is of a good length and takes no operands (R173), so a write that is not is no
restart. -/
theorem restart_length {rest : List Byte} (one : rest.length = 1) :
    rest ≠ [] ∧ rest.length < 8 ∧ TakesOperands .restart rest.tail := by
  obtain ⟨tag, rfl⟩ := List.length_eq_one_iff.mp one
  exact ⟨List.cons_ne_nil _ _, by simp, rfl⟩

/-! #### The port's bits of a write (R163, R164) -/

theorem openDrain_eq_low (b : Bool) : openDrain b = .low ↔ b = true := by cases b <;> decide

theorem eq_portAddress_iff (s : State) (dst : BitVec 7) :
    dst = portAddress s ↔ dst.toNat = 0x3A + s.addrCode.toNat := by
  rw [← BitVec.toNat_inj, portAddress_toNat]

/-- The general call address is never the port's own (R163). -/
theorem portAnswers_generalCall (s : State) : portAnswers s 0 = false := by
  rw [Bool.eq_false_iff, ne_eq, portAnswers_iff, eq_portAddress_iff]
  rintro ⟨-, own⟩
  have zero : (0 : BitVec 7).toNat = 0 := rfl
  omega

/-- A port that does not answer an address drives SDA in no bit of its transaction (R163). -/
theorem sdaPin_silent {s : State} {dst : BitVec 7} (silent : portAnswers s dst = false) :
    sdaPin s (.addressAck dst) = .undriven ∧ (∀ n, sdaPin s (.writeAck dst n) = .undriven)
      ∧ ∀ n i, sdaPin s (.readData dst n i) = .undriven := by
  simp [sdaPin, silent, openDrain]

theorem sdaPin_reset {s : State} (reset : s.station = .reset) (bit : BusBit) :
    sdaPin s bit = .undriven := by
  have silent (dst : BitVec 7) : portAnswers s dst = false := by simp [portAnswers, reset]
  cases bit with
  | hosts => rfl
  | addressAck dst => exact (sdaPin_silent (silent dst)).1
  | writeAck dst n => exact (sdaPin_silent (silent dst)).2.1 n
  | readData dst n i => exact (sdaPin_silent (silent dst)).2.2 n i

/-- Settles O42: the acknowledge bits follow the address, and a refused request leaves its answer alone. -/
theorem refusedRequests : Obligations.RefusedRequests := by
  refine ⟨fun s dst n => ⟨?address, (sdaPin_silent (portAnswers_generalCall s)).1, ?bytes,
    fun reset => sdaPin_reset reset, rfl⟩, fun s code dst rest stn addr => ⟨fun elsewhere => ?_, ?_⟩⟩
  case address => rw [sdaPin, openDrain_eq_low, portAnswers_iff, eq_portAddress_iff]
  case bytes =>
    rw [sdaPin, openDrain_eq_low, Bool.and_eq_true, portAnswers_iff, eq_portAddress_iff, and_assoc,
      decide_eq_true_iff]
    rfl
  · refine ⟨?_, fun b unknown => ?_⟩
    · rw [exec_request, addressed_elsewhere _ _ _ elsewhere]
    · rw [exec_unknownRequest unknown, addressed_elsewhere _ _ _ elsewhere]
  · rintro rfl
    have online (on : s.station.onLine = true) := (Station.not_idle_of_onLine on).1
    have awake (loading : s.station = .loading) : s.station ≠ .reset := by simp [loading]
    refine ⟨fun loading stays => ?_, fun on odd => ?_, fun on other => ?_,
      fun on some_tag takes bad => ?_, fun b unknown => ⟨fun loading => ?_, fun on odd => ?_,
        fun on some_tag short => ?_⟩⟩
    · exact exec_request_refused (awake loading) stays (takeRequest_notReady loading _ _) stn addr
    · refine exec_request_refused (online on) ?_
        (takeRequest_refused on (judgeRequest_length odd _) (by decide)) stn addr
      rintro ⟨-, one⟩
      obtain ⟨some_tag, short, -⟩ := restart_length one
      exact odd.elim some_tag short.not_ge
    · refine exec_request_refused (online on) ?_
        (takeRequest_refused on (judgeRequest_count other) (by decide)) stn addr
      rintro ⟨rfl, one⟩
      exact other (restart_length one).2.2
    · refine exec_request_refused (online on) ?_
        (takeRequest_refused on (judgeRequest_values some_tag takes bad) (by decide)) stn addr
      rintro ⟨rfl, -⟩
      exact bad trivial
    · exact exec_unknown_refused unknown (awake loading) (takeRequest_notReady loading _ _)
    · exact exec_unknown_refused unknown (online on)
        (takeRequest_refused on (judgeRequest_length odd _) (by decide))
    · exact exec_unknown_refused unknown (online on)
        (takeRequest_refused on (judgeRequest_unknown some_tag short) (by decide))

end Sys2Proof.Machine

/-! ### READ_JOURNAL (R144, R146, R170) -/

namespace Sys2Proof.Machine

open Sys2Proof

/-- The station after READ_JOURNAL for at most `n` records, in a write of `bytes` bytes (R144, R170). -/
def State.handingOver (s : State) (bytes : Nat) (tag : Byte) (n : Nat) : State :=
  { s with
    journal := { s.journal with handed := min n s.journal.records.length }
    port := s.port.answered bytes tag .ok (!(s.journal.records.take n).isEmpty)
      ((s.journal.records.take n).flatMap Record.bytes) }

theorem actReadJournal_asked (tag : Byte) (ops : List Byte) (bytes : Nat) (s : State) :
    actReadJournal tag ops (s.asked bytes) = s.handingOver bytes tag (ops.getD 0 0).toNat := by
  rw [State.handingOver, ← List.length_take]
  exact respond_asked _ _ bytes s

/-- Settles O45: the records marked are those copied, the oldest, and they stay. -/
theorem readJournal : Obligations.ReadJournal := by
  intro s tag n on some_record few
  have values : operandsAccepted .readJournal [n] = true := by
    simp [operandsAccepted, some_record, few]
  have marked : (!(s.journal.records.take n.toNat).isEmpty) = decide (s.journal.records ≠ []) := by
    have some_taken : n.toNat ≠ 0 := by omega
    cases s.journal.records <;> simp [some_taken]
  rw [← marked, ← min_def]
  exact congrArg Host.Outcome.next
    ((addressed_accepted on (judgeRequest_accepted rfl values tag) actReadJournal).trans
      (actReadJournal_asked tag [n] 3 s))

end Sys2Proof.Machine

/-! ### Reads of the response (R145, R163, R165, R166, R179, section 11.4) -/

namespace Sys2Proof.Machine

open Sys2Proof

/-! #### The bytes sent -/

/-- A read returns the response's bytes, then FFh (R165). -/
theorem readBytes_eq_take (p : Port) (n : Nat) :
    p.readBytes n = (p.responseBytes ++ List.replicate n 0xFF#8).take n := by
  simp [Port.readBytes, List.take_append]

theorem responseBytes_empty {p : Port} (empty : p.buffer = .empty) :
    p.responseBytes = [0x00#8, 0x05#8, 0x00#8, 0x00#8] := by
  simp only [Port.responseBytes, empty]
  rfl

theorem responseBytes_of_response {p : Port} {r : Response} (held : p.buffer ≠ .empty)
    (response : p.response = some r) : p.responseBytes = r.bytes := by
  unfold Port.responseBytes
  split
  · next empty => exact absurd empty held
  · next missing _ => cases missing.symm.trans response
  · next same _ => exact congrArg Response.bytes (Option.some.inj (same.symm.trans response))

/-- The bytes of a response, its header first (R165, R179). -/
theorem response_bytes (r : Response) :
    r.bytes =
      [ r.tag,
        (match r.result with
          | .ok => 0x00#8 | .badRequest => 0x01#8 | .badOperand => 0x02#8 | .badLength => 0x03#8
          | .notReady => 0x04#8 | .none => 0x05#8),
        BitVec.ofNat 8
          ((if r.replacedUnread = true then 1 else 0) + if r.carriesRecords = true then 2 else 0),
        BitVec.ofNat 8 r.data.length ]
      ++ r.data := by
  have flags : packBits [r.replacedUnread, r.carriesRecords] =
      (if r.replacedUnread = true then 1 else 0) + if r.carriesRecords = true then 2 else 0 := by
    cases r.carriesRecords <;> rfl
  rw [Response.bytes, flags]
  cases r.result <;> rfl

theorem response_bytes_length (r : Response) : r.bytes.length = 4 + r.data.length := by
  simp only [Response.bytes, List.length_cons]
  omega

/-! #### The read -/

/-- The station whose last read sent `n` bytes. -/
def State.reading (s : State) (n : Nat) : State := s.setPort { s.port with sent := s.port.readBytes n }

/-- A read of an EMPTY buffer, or one that stops short, changes only what was sent (R165, R166). -/
theorem readResponse_stays {s : State} {n : Nat}
    (stays : s.port.buffer = .empty ∨ n < s.port.responseBytes.length) :
    readResponse n s = s.reading n := by
  refine if_neg ?_
  rcases stays with empty | short
  · simp [empty]
  · simp [short]

/-- A read to the end removes the records of an outstanding hand-over (R145, R166). -/
theorem readResponse_ends {s : State} {n : Nat} (held : s.port.buffer ≠ .empty)
    (whole : s.port.responseBytes.length ≤ n) : readResponse n s = readToEnd (s.reading n) :=
  if_pos (by simp [held, whole])

theorem readToEnd_eq (s : State) :
    readToEnd s =
      { s with
        port := { s.port with buffer := .read, handOver := false }
        journal :=
          if s.port.handOver = true then
            { s.journal with records := s.journal.records.drop s.journal.handed, handed := 0 }
          else s.journal } := by
  unfold readToEnd
  dsimp only
  split <;> rfl

theorem readResponse_sent (n : Nat) (s : State) : (readResponse n s).port.sent = s.port.readBytes n := by
  by_cases stays : s.port.buffer = .empty ∨ n < s.port.responseBytes.length
  · rw [readResponse_stays stays]
    rfl
  · obtain ⟨held, whole⟩ := not_or.mp stays
    rw [readResponse_ends held (Nat.not_lt.mp whole), readToEnd_eq]
    rfl

theorem exec_responseRead {s : State} (running : s.station ≠ .reset) (n : Nat) :
    exec (.responseRead ⟨portAddress s, n⟩) s = .next (readResponse n s) :=
  congrArg Host.Outcome.next (addressed_own _ s running)

/-- SDA is pulled low in a data bit exactly if the bit sent is 0 (R165). -/
theorem sdaPin_readData {s : State} (running : s.station ≠ .reset) (m : Nat) (i : Fin 8) :
    sdaPin s (.readData (portAddress s) m i) = .low ↔ (s.port.readByte m).getLsbD i.val = false := by
  have own : portAnswers s (portAddress s) = true := (portAnswers_iff _ _).mpr ⟨running, rfl⟩
  rw [sdaPin, openDrain_eq_low, own, Bool.true_and, Bool.not_eq_true']

/-- Settles O46: what a read sends, and the one read that reaches the end of a response. -/
theorem responseRead : Obligations.ResponseRead := by
  intro s n running
  refine ⟨fun dst other => ⟨?_, ?_⟩, ?_, fun empty => ?_, fun r held response => ?_⟩
  · exact congrArg Host.Outcome.next (addressed_elsewhere dst _ s (.inr other))
  · have silent : portAnswers s dst = false := by
      rw [Bool.eq_false_iff, ne_eq, portAnswers_iff]
      exact fun own => other own.2
    exact (sdaPin_silent silent).2.2
  · refine ⟨_, exec_responseRead running n, by simp [readResponse_sent], fun m i below => ?_⟩
    rw [readResponse_sent, List.getD_eq_getElem?_getD, Port.readBytes_get _ _ _ below]
    exact sdaPin_readData running m i
  · rw [exec_responseRead running, readResponse_stays (.inl empty), ← responseBytes_empty empty,
      ← readBytes_eq_take]
    rfl
  · have bytes := responseBytes_of_response held response
    have length := bytes ▸ response_bytes_length r
    refine ⟨response_bytes r, fun short => ?_, fun whole => ?_⟩
    · rw [exec_responseRead running, readResponse_stays (.inr (by omega)), ← bytes, ← readBytes_eq_take]
      rfl
    · rw [exec_responseRead running, readResponse_ends held (by omega), readToEnd_eq, ← bytes,
        ← readBytes_eq_take]
      rfl

end Sys2Proof.Machine

/-! ### Every step keeps the law of the journal (R140, R144 to R146)

The port alone changes the hand-over: a request ends it, READ_JOURNAL begins one, a read to the end removes
what it marked. -/

namespace Sys2Proof.Machine

open Sys2Proof

/-- Every request but READ_JOURNAL and RESTART is answered without records, and takes the journal as it
finds it (R146, R168 to R172). -/
theorem requestAction_answers {c : RequestCode} (other : c ≠ .readJournal) (stays : c ≠ .restart)
    (tag : Byte) (ops : List Byte) (s : State) :
    ∃ data u, requestAction c tag ops s = answer tag data u ∧ u.journal = s.journal := by
  cases c with
  | readJournal => exact absurd rfl other
  | restart => exact absurd rfl stays
  | getStatus | getSlots | getChannels | getPatterns => exact ⟨_, s, rfl, rfl⟩
  | ackSlots | ackConditions | ackPatterns | setSoft | pulseSoft => exact ⟨_, _, rfl, by simp⟩

namespace State.JournalLaw

variable {s t : State}

/-- A state without a hand-over keeps the law if its journal does (R146). -/
theorem of_released (law : t.journal.Lawful) (unmarked : t.journal.handed = 0)
    (ended : t.port.handOver = false) : t.JournalLaw :=
  (journalLaw_iff t).mpr ⟨law, by simp [unmarked, ended]⟩

theorem of_same (h : s.JournalLaw) (journal : t.journal = s.journal)
    (handOver : t.port.handOver = s.port.handOver) : t.JournalLaw := by
  rw [journalLaw_iff, journal, handOver]
  exact (journalLaw_iff s).mp h

/-- Events that only generate records keep the law. -/
theorem of_records (h : s.JournalLaw) (records : TakesRecords s t) : t.JournalLaw := by
  obtain ⟨law, mark⟩ := (journalLaw_iff s).mp h
  obtain ⟨port, bodies, journal⟩ := records
  rw [journalLaw_iff, port, journal, foldl_taking_handed]
  exact ⟨law.foldl_taking bodies, mark⟩

theorem reset (journal : t.journal = State.reset.journal) (port : t.port = State.reset.port) :
    t.JournalLaw :=
  reset_journalLaw.of_same journal (by rw [port])

/-! #### The host port -/

theorem handingOver (h : s.JournalLaw) (bytes : Nat) (tag : Byte) {n : Nat} (few : n ≤ 4) :
    (s.handingOver bytes tag n).JournalLaw := by
  obtain ⟨law, -⟩ := (journalLaw_iff s).mp h
  refine (journalLaw_iff _).mpr ⟨law.mark (min_le_of_left_le few) (min_le_right _ _), ?_⟩
  simp [State.handingOver, Port.answered, List.isEmpty_eq_false_iff, Nat.pos_iff_ne_zero]

theorem answered {u : State} {bytes : Nat} (h : s.JournalLaw)
    (journal : u.journal = (s.asked bytes).journal) {r : Response} (carries : r.carriesRecords = false) :
    (respond r u).JournalLaw := by
  obtain ⟨law, -⟩ := (journalLaw_iff s).mp h
  have released : (respond r u).journal = s.journal.released := by simp [journal]
  exact of_released (released ▸ law.released) (by rw [released]; rfl) carries

theorem asked (h : s.JournalLaw) (bytes : Nat) : (s.asked bytes).JournalLaw := by
  obtain ⟨law, -⟩ := (journalLaw_iff s).mp h
  exact of_released law.released rfl rfl

theorem requestAction (h : s.JournalLaw) {c : RequestCode} {rest : List Byte}
    (accepted : judgeRequest (some c) rest = .ok) (tag : Byte) (bytes : Nat) :
    (requestAction c tag rest.tail (s.asked bytes)).JournalLaw := by
  by_cases read : c = .readJournal
  · subst read
    obtain ⟨-, few⟩ := acceptsOperands_of_judged accepted
    simp only [Machine.requestAction, actReadJournal_asked]
    exact h.handingOver bytes tag few
  · by_cases restart : c = .restart
    · subst restart
      exact h.asked bytes
    · obtain ⟨data, u, e, journal⟩ := requestAction_answers read restart tag rest.tail (s.asked bytes)
      rw [e]
      exact h.answered journal rfl

theorem takeRequest (h : s.JournalLaw) {code : Option RequestCode} {rest : List Byte}
    {act : Byte → List Byte → State → State}
    (acts : judgeRequest code rest = .ok →
      (act (requestTag rest) rest.tail (s.asked (rest.length + 1))).JournalLaw) :
    (takeRequest code rest act s).JournalLaw := by
  rcases takeRequest_cases code rest act s with ⟨why, e⟩ | ⟨accepted, e⟩ <;> rw [e]
  · exact h.answered rfl rfl
  · exact acts accepted

theorem takeWrite (h : s.JournalLaw) (code : Byte) (rest : List Byte) (stn : BitVec 4)
    (addr : BitVec 2) : (takeWrite code rest stn addr s).JournalLaw := by
  cases named : RequestCode.ofByte code with
  | none =>
    rw [takeWrite_unknown named]
    exact h.takeRequest fun _ => h.asked _
  | some c =>
    by_cases restarts : c = .restart ∧ rest.length = 1
    · obtain ⟨rfl, one⟩ := restarts
      rw [takeWrite_restart named one]
      exact reset rfl rfl
    · rw [takeWrite_request named restarts]
      exact h.takeRequest fun accepted => h.requestAction accepted _ _

/-- The end of a read removes the marked records, if there are any (R145). -/
theorem readToEnd (h : s.JournalLaw) : (readToEnd s).JournalLaw := by
  obtain ⟨law, mark⟩ := (journalLaw_iff s).mp h
  rw [readToEnd_eq]
  split
  · exact of_released law.remove rfl rfl
  · next ended =>
    have unmarked : s.journal.handed = 0 := Nat.eq_zero_of_not_pos (mt mark.mpr ended)
    exact of_released law unmarked rfl

theorem readResponse (h : s.JournalLaw) (n : Nat) : (readResponse n s).JournalLaw := by
  have reading : (s.reading n).JournalLaw := h.of_same rfl rfl
  by_cases stays : s.port.buffer = .empty ∨ n < s.port.responseBytes.length
  · rw [readResponse_stays stays]
    exact reading
  · obtain ⟨held, whole⟩ := not_or.mp stays
    rw [readResponse_ends held (Nat.not_lt.mp whole)]
    exact reading.readToEnd

/-! #### The commands -/

theorem takeMid (h : s.JournalLaw) (e : MidEvent) : (takeMid e s).JournalLaw := by
  cases e with
  | powerOnReset | pinReset => exact reset rfl rfl
  | stuckTimerExpiry => exact h.of_records (.stuckExpires s)
  | recoveryTimerExpiry => exact h.of_records (.recoveryExpires s)
  | holdTimerExpiry p => exact h.of_records (.holdExpires p s)
  | quietTimerExpiry p => exact h.of_records (.quietExpires p s)
  | request code w stn addr =>
    simp only [Machine.takeMid, addressed]
    split
    exacts [h.takeWrite code w.rest stn addr, h]
  | responseRead r =>
    simp only [Machine.takeMid, addressed]
    split
    exacts [h.readResponse r.bytes, h]
  | _ => exact h.of_same (by simp [Machine.takeMid]) (by simp [Machine.takeMid])

theorem endFrame (h : s.JournalLaw) (check : Sample) (between : List (List MidEvent)) :
    (endFrame check between s).JournalLaw := by
  by_cases atCheck : s.AtCheck
  · have checked : (s.checked check).JournalLaw := h.of_same (by simp) (by simp)
    by_cases valid : check = .free ∧ s.lif.fault = false
    · obtain ⟨rfl, clean⟩ := valid
      rcases Station.onLine_iff.mp atCheck.1 with listen | station
      · rw [endFrame_of_atCheck .free between atCheck, if_pos ⟨rfl, clean⟩,
          endValid_listen between (by simpa using listen)]
        have counted : (countValid (s.checked .free)).JournalLaw := h.of_same (by simp) (by simp)
        exact counted.of_records (.censusFrame _)
      · rw [show Machine.endFrame .free between s = _ from
          Host.Outcome.next.inj (exec_frameEnd_valid atCheck station clean between)]
        have applied : s.applied.JournalLaw := h.of_same (by simp) (by simp)
        exact kept_by_deliverAll (fun e _ h => h.takeMid e) (fun tr s h => h.of_records (.deliver tr s))
          _ between applied
    · rw [endFrame_of_atCheck check between atCheck, if_neg valid]
      exact checked.of_records (.endVoid _)
  · rw [endFrame_of_not_atCheck check between atCheck]
    exact h.of_same (by simp) (by simp)

theorem resetEnds (h : s.JournalLaw) (stn : BitVec 4) (addr : BitVec 2) :
    (resetEnds stn addr s).JournalLaw := by
  unfold Machine.resetEnds
  split
  exacts [h.of_same rfl rfl, h]

end State.JournalLaw

/-- Settles O56: events generate records, which follow one another, and the port alone marks, removes and
unmarks them. -/
theorem journalLawKept : Obligations.JournalLawKept := by
  intro s t law hs
  refine kept_by_step (P := State.JournalLaw) (fun _ _ h => h.of_same rfl rfl) ?_ law hs
  exact fun c s t h he => kept_by_exec (P := State.JournalLaw)
    (fun e _ h => h.takeMid e) (fun stn addr _ h => h.resetEnds stn addr)
    (fun b s h => h.of_records (.takeImageByte b s)) (fun _ h => h.of_same (by simp) (by simp))
    (fun x between _ h => h.endFrame x between) h he

end Sys2Proof.Machine

/-! ### Resets (R148 to R151, R160, R173) -/

namespace Sys2Proof.Machine

open Sys2Proof

/-- Out of RESET the loader's read is open (R149, R151). -/
theorem leaveReset_mcsPin (stn : BitVec 4) (addr : BitVec 2) (s : State) :
    mcsPin (leaveReset stn addr s) = .low := rfl

/-- Out of RESET the port acknowledges the address that the sampled straps give (R150, R163). -/
theorem leaveReset_answers (stn : BitVec 4) (addr : BitVec 2) (s : State) (dst : BitVec 7) :
    portAnswers (leaveReset stn addr s) dst = true ↔ dst.toNat = 0x3A + addr.toNat := by
  have loading : (leaveReset stn addr s).station = .loading := rfl
  have straps : (leaveReset stn addr s).addrCode = addr := rfl
  simp [loading, straps, eq_portAddress_iff]

theorem exec_resetEnd {s : State} (reset : s.station = .reset) (stn : BitVec 4) (addr : BitVec 2) :
    exec (.resetEnd stn addr) s = .next (leaveReset stn addr s) :=
  congrArg Host.Outcome.next (if_pos reset)

/-- A RESTART of its two bytes, sent to the port's address, restarts the station (R160, R163, R173). -/
theorem exec_restart {s : State} (running : s.station ≠ .reset) (tag : Byte) (stn : BitVec 4)
    (addr : BitVec 2) :
    exec (.restart ⟨portAddress s, [tag]⟩ stn addr) s = .next (restartStation stn addr s) :=
  congrArg Host.Outcome.next (addressed_own (requestRestart [tag] stn addr) s running)

theorem portAnswers_of_reset {s : State} (reset : s.station = .reset) (dst : BitVec 7) :
    portAnswers s dst = false := by
  simp [portAnswers, reset]

/-! ### The serial memory port (R149, R151, R161) -/

theorem readOpen_iff (s : State) :
    readOpen s = true ↔ s.station = .loading ∧ s.loader.selected = true := by
  simp [readOpen]

/-- With no read open the memory port drives none of its pins (R149, R161). -/
theorem memoryPort_undriven {s : State} (closed : readOpen s = false) :
    mcsPin s = .undriven ∧ (∀ half, mckPin s half = .undriven) ∧ ∀ n, mdoPin s n = .undriven := by
  simp [mcsPin, mckPin, mdoPin, closed, openDrain_false]

theorem readOpen_of_not_loading {s : State} (left : s.station ≠ .loading) : readOpen s = false := by
  simp [readOpen, left]

theorem PinLevel.drive_driven (l : PinLevel) : l.drive ≠ .undriven := by cases l <;> simp [PinLevel.drive]

/-- The bits of the read command at image address 0, most significant first (R151). -/
theorem sentBit_readCommand {l : Loader} (sent : l.sent = [0x03#8, 0x00#8, 0x00#8]) {n : Nat} (h : n < 24) :
    l.sentBit n = (0x030000#24).getLsbD (23 - n) := by
  have bits : ∀ n : Fin 24,
      (([0x03#8, 0x00#8, 0x00#8].getD (n.val / 8) 0).getLsbD (7 - n.val % 8)) =
        (0x030000#24).getLsbD (23 - n.val) := by decide
  rw [Loader.sentBit, sent]
  exact bits ⟨n, h⟩

/-- MDO in the cycles of the command and address bytes of an open read (R151). -/
theorem mdoPin_readCommand {s : State} (isOpen : readOpen s = true)
    (sent : s.loader.sent = [0x03#8, 0x00#8, 0x00#8]) {n : Nat} (h : n < 24) :
    mdoPin s n = .high ↔ (0x030000#24).getLsbD (23 - n) = true := by
  have command : n < 8 * s.loader.sent.length := by simpa [sent] using h
  rw [mdoPin, if_pos isOpen, if_pos command, sentBit_readCommand sent h]
  cases (0x030000#24).getLsbD (23 - n) <;> simp [PinLevel.drive]

/-- While a read is open MCS is low, MCK runs and MDO is driven (R151). -/
theorem memoryPort_driven {s : State} (isOpen : readOpen s = true) (n : Nat) :
    mcsPin s = .low ∧ mckPin s .low = .low ∧ mckPin s .high = .high ∧ mdoPin s n ≠ .undriven := by
  refine ⟨by simp [mcsPin, isOpen, openDrain], by simp [mckPin, isOpen, PinLevel.drive],
    by simp [mckPin, isOpen, PinLevel.drive], ?_⟩
  rw [mdoPin, if_pos isOpen]
  exact PinLevel.drive_driven _

/-- Settles O7: each reset enters RESET by `enterReset` and leaves it by `leaveReset`. -/
theorem resetCommands : Obligations.ResetCommands := by
  intro s
  refine ⟨rfl, rfl, fun stn addr reset => ⟨exec_resetEnd reset stn addr, _,
    exec_resetEnd reset stn addr, ?_, leaveReset_mcsPin stn addr s, portAnswers_of_reset reset,
    leaveReset_answers stn addr s⟩⟩
  exact (memoryPort_undriven (readOpen_of_not_loading (by simp [reset]))).1

/-- Settles O8: a RESTART enters RESET and leaves it within the one event. -/
theorem restartCommand : Obligations.RestartCommand := by
  intro s tag stn addr running
  exact ⟨_, exec_restart running tag stn addr, rfl, leaveReset_mcsPin stn addr _,
    leaveReset_answers stn addr _⟩

/-! ### Header bytes (R152) -/

theorem setLoader_setLoader (s : State) (l l' : Loader) :
    (s.setLoader l).setLoader l' = s.setLoader l' := rfl

/-- The loader with header byte `b` taken; the fourth is the profile count. -/
def Loader.withHeaderByte (l : Loader) (b : Byte) : Loader :=
  { l with
    pos := l.pos + 1
    header := l.header ++ [b]
    count := if l.pos = 3 then b.toNat else l.count }

/-- The check that header byte `b` fails, if it fails one, on a station with station code `code`. -/
def Loader.headerFault (l : Loader) (code : BitVec 4) (b : Byte) : Option FaultReason :=
  match l.pos with
  | 1 => if l.header ++ [b] = [0xC7#8, 0x1E#8] then none else some .badMarker
  | 2 => if b = 0x01#8 then none else some .badVersion
  | 3 =>
    if b.toNat = 0 ∨ 16 < b.toNat then some .badCount
    else if code.toNat < b.toNat then none else some .noProfile
  | _ => none

/-- A header byte is taken, and then ends LOADING or opens the next phase (R152, R156). -/
theorem takeHeaderByte_eq (b : Byte) (s : State) :
    takeHeaderByte b s =
      match s.loader.headerFault s.stationCode b with
      | some why => failLoading why (s.setLoader (s.loader.withHeaderByte b))
      | none =>
        s.setLoader
          { s.loader.withHeaderByte b with
            phase := if s.loader.pos = 5 then .profiles else s.loader.phase } := by
  unfold takeHeaderByte Loader.headerFault Loader.withHeaderByte
  match pos : s.loader.pos with
  | 0 => simp [pos]
  | 1 => by_cases marker : s.loader.header ++ [b] = [0xC7#8, 0x1E#8] <;> simp [pos, marker]
  | 2 => by_cases version : b = 0x01#8 <;> simp [pos, version]
  | 3 =>
    by_cases count : b.toNat = 0 ∨ 16 < b.toNat
    · simp [pos, count, setLoader_setLoader]
    · by_cases selected : s.stationCode.toNat < b.toNat <;>
        simp [pos, count, selected, setLoader_setLoader]
  | 4 => simp [pos]
  | 5 => simp [pos, setLoader_setLoader]
  | n + 6 => simp [pos]

theorem exec_imageByteTaken_header {s : State} (loading : s.station = .loading)
    (header : s.loader.phase = .header) (b : Byte) :
    exec (.imageByteTaken b) s = .next (takeHeaderByte b s) := by
  change Host.Outcome.next (takeImageByte b s) = _
  rw [takeImageByte, if_pos loading, header]

theorem exec_imageByteTaken_profiles {s : State} (loading : s.station = .loading)
    (profiles : s.loader.phase = .profiles) (b : Byte) :
    exec (.imageByteTaken b) s = .next (takeProfileByte b s) := by
  change Host.Outcome.next (takeImageByte b s) = _
  rw [takeImageByte, if_pos loading, profiles]

/-! ### Profile bytes (R153) -/

/-- The loader with profile byte `b` taken, on a station with station code `code`. -/
def Loader.withProfileByte (l : Loader) (code : BitVec 4) (b : Byte) : Loader :=
  { l with
    pos := l.pos + 1
    sum := l.sum + b.setWidth 16
    retained :=
      if 6 + 329 * code.toNat ≤ l.pos ∧ l.pos ≤ 6 + 329 * code.toNat + 328 then l.retained ++ [b]
      else l.retained }

/-- The selected profile is 329 bytes from its place in the image (R153). -/
theorem ofSelected_iff (code : BitVec 4) (pos : Nat) :
    ofSelected code pos = true ↔ 6 + 329 * code.toNat ≤ pos ∧ pos ≤ 6 + 329 * code.toNat + 328 := by
  rw [ofSelected, Bool.and_eq_true, decide_eq_true_iff, decide_eq_true_iff, Config.headerBytes,
    Config.profileBytes]
  omega

theorem takeProfileByte_eq (b : Byte) (s : State) :
    takeProfileByte b s =
      if 6 + 329 * s.loader.count ≤ s.loader.pos + 1 then
        finishRead (s.setLoader (s.loader.withProfileByte s.stationCode b))
      else s.setLoader (s.loader.withProfileByte s.stationCode b) := by
  simp only [takeProfileByte, ofSelected_iff]
  rfl

/-- Settles O9: the port's pins follow the open read, and a byte that fails no check and is not the last
moves the loader alone. -/
theorem imageBytesTaken : Obligations.ImageBytesTaken := by
  refine ⟨fun s n => ⟨fun loading selected => ?_, fun closed => ?_⟩,
    fun s b loading => ⟨fun header passes => ?_, fun profiles more => ?_⟩⟩
  · have isOpen := (readOpen_iff s).mpr ⟨loading, selected⟩
    obtain ⟨mcs, mckLow, mckHigh, mdo⟩ := memoryPort_driven isOpen n
    exact ⟨mcs, mckLow, mckHigh, mdo, fun sent => mdoPin_readCommand isOpen sent⟩
  · have noRead : readOpen s = false := by
      rw [Bool.eq_false_iff, ne_eq, readOpen_iff]
      rintro ⟨loading, selected⟩
      simp [loading, selected] at closed
    obtain ⟨mcs, mck, mdo⟩ := memoryPort_undriven noRead
    exact ⟨mcs, mck, mdo n⟩
  · have noFault : s.loader.headerFault s.stationCode b = none := by
      rcases passes with pos | ⟨pos, marker⟩ | ⟨pos, version⟩ | ⟨pos, least, most, selected⟩ | pos | pos
      · simp [Loader.headerFault, pos]
      · simp [Loader.headerFault, pos, marker]
      · simp [Loader.headerFault, pos, version]
      · have counted : ¬ (b.toNat = 0 ∨ 16 < b.toNat) := by omega
        simp only [Loader.headerFault, pos, if_neg counted, if_pos selected]
      · simp [Loader.headerFault, pos]
      · simp [Loader.headerFault, pos]
    rw [exec_imageByteTaken_header loading header, takeHeaderByte_eq, noFault, header]
    rfl
  · rw [exec_imageByteTaken_profiles loading profiles, takeProfileByte_eq, if_neg (by omega)]
    rfl

/-! ### The end of the read (R153, R154, R156) -/

/-- A failed check ends LOADING on the fallback profile, with its reason (R156). -/
theorem failLoading_outcome (why : FaultReason) (s : State) :
    (failLoading why s).station = .listen ∧ (failLoading why s).profile = fallbackProfile
      ∧ (failLoading why s).owner.imageFault = true
      ∧ (failLoading why s).conds.get condImageFault = true
      ∧ (failLoading why s).loader =
          { s.loader with
            phase := .done, status := .fault, reason := why, retained := [], selected := false } := by
  refine ⟨endLoading_station _ _ _, endLoading_profile _ _ _, ?_, ?_, (endLoading_keeps _ _ _).2.2.2.1⟩
  · rw [failLoading, endLoading_owner]
    rfl
  · rw [failLoading, endLoading_eq_starting, generate_conds_other (by decide)]
    simp [leavingLoading_conds]

/-- A profile that passes ends LOADING with that profile in force (R154). -/
theorem passLoading_outcome (p : Profile) (s : State) :
    (passLoading p s).station = .listen ∧ (passLoading p s).profile = p
      ∧ (passLoading p s).loader = { s.loader with status := .ok } :=
  ⟨endLoading_station _ _ _, endLoading_profile _ _ _, (endLoading_keeps _ _ _).2.2.2.1⟩

/-- Settles O10: each of the four checks is the one that the byte fails. -/
theorem imageHeaderRefused : Obligations.ImageHeaderRefused := by
  intro s b why loading header fails
  have fault : s.loader.headerFault s.stationCode b = some why := by
    rcases fails with ⟨pos, marker, rfl⟩ | ⟨pos, version, rfl⟩ | ⟨pos, counted, rfl⟩
      | ⟨pos, least, most, none, rfl⟩
    · simp only [Loader.headerFault, pos, if_neg marker]
    · simp only [Loader.headerFault, pos, if_neg version]
    · simp only [Loader.headerFault, pos, if_pos counted]
    · have counted : ¬ (b.toNat = 0 ∨ 16 < b.toNat) := by omega
      simp only [Loader.headerFault, pos, if_neg counted, if_neg none.not_gt]
  obtain ⟨station, profile, flag, latch, loader⟩ :=
    failLoading_outcome why (s.setLoader (s.loader.withHeaderByte b))
  refine ⟨_, ?_, station, profile, flag, latch, loader,
    memoryPort_undriven (readOpen_of_not_loading (by simp [station]))⟩
  rw [exec_imageByteTaken_header loading header, takeHeaderByte_eq, fault]

/-- The checksum's two bytes as one number of 16 bits (section 11.2). -/
theorem checksum_eq (l : Loader) :
    l.checksum = (l.header.getD 4 0).setWidth 16 + 256#16 * (l.header.getD 5 0).setWidth 16 := by
  simp [Loader.checksum, BitVec.ofNat_add, BitVec.ofNat_mul]

theorem finishRead_wrongSum {s : State} (wrong : s.loader.sum ≠ s.loader.checksum) :
    finishRead s = failLoading .badSum s :=
  if_pos wrong

/-- The sum is judged before the fields (R153, R154). -/
theorem finishRead_invalid {s : State} (right : s.loader.sum = s.loader.checksum)
    (invalid : decodeProfile s.loader.retained = none) : finishRead s = failLoading .badProfile s := by
  refine (if_neg (not_not.mpr right)).trans ?_
  simp only [State.setLoader_loader, invalid]
  rfl

theorem finishRead_valid {s : State} (right : s.loader.sum = s.loader.checksum) {p : Profile}
    (valid : decodeProfile s.loader.retained = some p) :
    finishRead s =
      passLoading p (s.setLoader { s.loader with phase := .done, selected := false }) := by
  refine (if_neg (not_not.mpr right)).trans ?_
  simp only [State.setLoader_loader, valid]

/-- Whatever the verdict, the last byte ends LOADING and the read (R151, R156, R158). -/
theorem finishRead_ended (s : State) :
    (finishRead s).station = .listen ∧ (finishRead s).loader.phase = .done
      ∧ (finishRead s).loader.selected = false := by
  have failed (why : FaultReason) : (failLoading why s).station = .listen
      ∧ (failLoading why s).loader.phase = .done ∧ (failLoading why s).loader.selected = false := by
    obtain ⟨station, -, -, -, loader⟩ := failLoading_outcome why s
    simp [station, loader]
  by_cases right : s.loader.sum = s.loader.checksum
  · match valid : decodeProfile s.loader.retained with
    | none =>
      rw [finishRead_invalid right valid]
      exact failed .badProfile
    | some p =>
      rw [finishRead_valid right valid]
      obtain ⟨station, -, loader⟩ := passLoading_outcome p
        (s.setLoader { s.loader with phase := .done, selected := false })
      simp [station, loader]
  · rw [finishRead_wrongSum right]
    exact failed .badSum

/-- Settles O11: the last byte ends the read; the sum decides first, and then the retained profile. -/
theorem imageVerdict : Obligations.ImageVerdict := by
  intro s b loading profiles last sum retained checksum
  let taken := s.setLoader (s.loader.withProfileByte s.stationCode b)
  have run : exec (.imageByteTaken b) s = .next (finishRead taken) := by
    rw [exec_imageByteTaken_profiles loading profiles, takeProfileByte_eq, if_pos last.ge]
  have verdict_sum : taken.loader.sum = taken.loader.checksum ↔ sum = checksum := by
    rw [checksum_eq taken.loader]
    rfl
  have verdict_image : decodeProfile taken.loader.retained = decodeProfile retained := rfl
  obtain ⟨station, phase, selected⟩ := finishRead_ended taken
  obtain ⟨mcs, mck, mdo⟩ := memoryPort_undriven (s := finishRead taken)
    (readOpen_of_not_loading (by simp [station]))
  refine ⟨_, run, station, phase, selected, mcs, mck, mdo, fun wrong => ?_, fun right invalid => ?_,
    fun p right valid => ?_⟩
  · obtain ⟨-, profile, -, -, loader⟩ := failLoading_outcome .badSum taken
    rw [finishRead_wrongSum (verdict_sum.not.mpr wrong), loader]
    exact ⟨rfl, rfl, profile⟩
  · obtain ⟨-, profile, -, -, loader⟩ := failLoading_outcome .badProfile taken
    rw [finishRead_invalid (verdict_sum.mpr right) (verdict_image.trans invalid), loader]
    exact ⟨rfl, rfl, profile⟩
  · obtain ⟨-, profile, loader⟩ := passLoading_outcome p
      (taken.setLoader { taken.loader with phase := .done, selected := false })
    rw [finishRead_valid (verdict_sum.mpr right) (verdict_image.trans valid), loader]
    exact ⟨rfl, rfl, profile⟩

end Sys2Proof.Machine

/-! ### The bytes of a journal record (R180, section 11.5) -/

namespace Sys2Proof.Machine

open Sys2Proof

/-! #### The codes of the causes

Section 11.5 numbers the causes of each kind of record. `RecordBody.causeByte` writes three of the four
numberings out in place; here they have names, and the lemmas below tie them to that byte. -/

/-- Cause of a SLOT record (section 11.5). -/
def SlotCause.code : SlotCause → Nat
  | .frame => 0
  | .ownerLost => 1

/-- Cause of a LINE record (section 11.5). -/
def LineCause.code : LineCause → Nat
  | .stuck => 0
  | .clear => 1
  | .backoff => 2

/-- Cause of a CLAIM record (section 11.5). -/
def ClaimCause.code : ClaimCause → Nat
  | .conflict => 0
  | .contest => 1

theorem ResetCause.code_le (c : ResetCause) : c.code ≤ 2 := by cases c <;> decide

theorem SlotCause.code_le (c : SlotCause) : c.code ≤ 1 := by cases c <;> decide

theorem LineCause.code_le (c : LineCause) : c.code ≤ 2 := by cases c <;> decide

theorem ClaimCause.code_le (c : ClaimCause) : c.code ≤ 1 := by cases c <;> decide

theorem ResetCause.code_injective : Function.Injective ResetCause.code := by
  rintro ⟨⟩ ⟨⟩ ⟨⟩ <;> rfl

theorem ImageStatus.code_injective : Function.Injective ImageStatus.code := by
  rintro ⟨⟩ ⟨⟩ ⟨⟩ <;> rfl

theorem SlotCause.code_injective : Function.Injective SlotCause.code := by
  rintro ⟨⟩ ⟨⟩ ⟨⟩ <;> rfl

theorem LineCause.code_injective : Function.Injective LineCause.code := by
  rintro ⟨⟩ ⟨⟩ ⟨⟩ <;> rfl

theorem ClaimCause.code_injective : Function.Injective ClaimCause.code := by
  rintro ⟨⟩ ⟨⟩ ⟨⟩ <;> rfl

theorem Level.bit_injective : Function.Injective Level.bit := by
  rintro ⟨⟩ ⟨⟩ ⟨⟩ <;> rfl

/-! #### The third, fourth and fifth byte -/

theorem RecordBody.kind_le (b : RecordBody) : b.kind ≤ 4 := by cases b <;> simp [kind]

theorem flag_eq_of_toNat {a b : Bool} (h : a.toNat = b.toNat) : a = b :=
  Function.LeftInverse.injective Bool.ofNat_toNat h

theorem bitAt_eq (b : Bool) (n : Nat) : bitAt b n = 2 ^ n * b.toNat := by cases b <;> simp [bitAt]

/-- Byte 2: the kind, and whether a stamp and a lost count are there. -/
theorem kindByte_toNat (body : RecordBody) (stamped lost : Bool) :
    (byteOf (body.kind + 16 * packBits [stamped, lost])).toNat =
      body.kind + bitAt stamped 4 + bitAt lost 5 := by
  have flags : 16 * packBits [stamped, lost] = bitAt stamped 4 + bitAt lost 5 := packBits_pair 4 _ _
  have kind := body.kind_le
  have stamp_bit := bitAt_le stamped 4
  have lost_bit := bitAt_le lost 5
  rw [byteOf_toNat (by omega)]
  omega

@[simp] theorem subject_slot_toNat (k : Fin 48) (v : Level) (c : SlotCause) (stamp : BitVec 16) :
    (RecordBody.slot k v c stamp).subject.toNat = k.val :=
  slotNumber_toNat k

@[simp] theorem subject_claim_toNat (k : Fin 48) (c : ClaimCause) :
    (RecordBody.claim k c).subject.toNat = k.val :=
  slotNumber_toNat k

@[simp] theorem subject_matched_toNat (p : Fin 8) (stamp : Option (BitVec 16)) :
    (RecordBody.matched p stamp).subject.toNat = p.val :=
  byteOf_toNat (by omega)

@[simp] theorem causeByte_start_toNat (c : ResetCause) (status : ImageStatus) :
    (RecordBody.start c status).causeByte.toNat = c.code + 16 * status.code := by
  have cause := c.code_le
  have image := status.code_le
  exact byteOf_toNat (by omega)

@[simp] theorem causeByte_slot_toNat (k : Fin 48) (v : Level) (c : SlotCause) (stamp : BitVec 16) :
    (RecordBody.slot k v c stamp).causeByte.toNat = c.code + bitAt v.bit 3 := by
  have cause := c.code_le
  have level_bit := bitAt_le v.bit 3
  have flag : 8 * packBits [v.bit] = bitAt v.bit 3 := by cases v <;> rfl
  exact (byteOf_toNat (n := c.code + 8 * packBits [v.bit]) (by omega)).trans (by rw [flag])

@[simp] theorem causeByte_line_toNat (c : LineCause) :
    (RecordBody.line c).causeByte.toNat = c.code :=
  byteOf_toNat (n := c.code) (by have := c.code_le; omega)

@[simp] theorem causeByte_claim_toNat (k : Fin 48) (c : ClaimCause) :
    (RecordBody.claim k c).causeByte.toNat = c.code :=
  byteOf_toNat (n := c.code) (by have := c.code_le; omega)

/-- The nine bytes as numbers (section 11.5). -/
theorem Record.bytes_toNat (r : Record) :
    r.bytes.map BitVec.toNat =
      [ r.seq.toNat % 256, r.seq.toNat / 256,
        r.body.kind + bitAt r.body.stamp.isSome 4 + bitAt r.lost.isSome 5,
        r.body.subject.toNat, r.body.causeByte.toNat,
        (r.body.stamp.getD 0).toNat % 256, (r.body.stamp.getD 0).toNat / 256,
        (r.lost.getD 0).toNat % 256, (r.lost.getD 0).toNat / 256 ] := by
  simp only [Record.bytes, List.map_append, List.map_cons, List.map_nil, word16_toNat, kindByte_toNat,
    List.cons_append, List.nil_append]

/-! #### Reading a record off its bytes -/

theorem word_eq_of_bytes {v w : BitVec 16} (low : v.toNat % 256 = w.toNat % 256)
    (high : v.toNat / 256 = w.toNat / 256) : v = w :=
  BitVec.eq_of_toNat_eq (by omega)

/-- An absent word differs from a present 0 by its flag. -/
theorem optionalWord_eq {v w : Option (BitVec 16)} (present : v.isSome = w.isSome)
    (value : v.getD 0 = w.getD 0) : v = w := by
  cases v <;> cases w <;> simp_all

/-- Byte 2 says the kind and both flags: the kind keeps below bit 4. -/
theorem kindByte_fields {b b' : RecordBody} {stamped stamped' lost lost' : Bool}
    (h : b.kind + bitAt stamped 4 + bitAt lost 5 = b'.kind + bitAt stamped' 4 + bitAt lost' 5) :
    b.kind = b'.kind ∧ stamped = stamped' ∧ lost = lost' := by
  have kind := b.kind_le
  have kind' := b'.kind_le
  have := stamped.toNat_le
  have := stamped'.toNat_le
  simp only [bitAt_eq] at h
  exact ⟨by omega, flag_eq_of_toNat (by omega), flag_eq_of_toNat (by omega)⟩

/-- Byte 4 of a START record says the cause and the image status. -/
theorem startCauseByte_fields {c c' : ResetCause} {status status' : ImageStatus}
    (h : c.code + 16 * status.code = c'.code + 16 * status'.code) : c = c' ∧ status = status' := by
  have cause := c.code_le
  have cause' := c'.code_le
  exact ⟨ResetCause.code_injective (by omega), ImageStatus.code_injective (by omega)⟩

/-- Byte 4 of a SLOT record says the cause and the level. -/
theorem slotCauseByte_fields {c c' : SlotCause} {v v' : Level}
    (h : c.code + bitAt v.bit 3 = c'.code + bitAt v'.bit 3) : c = c' ∧ v = v' := by
  have cause := c.code_le
  have cause' := c'.code_le
  simp only [bitAt_eq] at h
  exact ⟨SlotCause.code_injective (by omega), Level.bit_injective (flag_eq_of_toNat (by omega))⟩

/-- Within one kind, the subject, the cause byte and the stamp say what the record tells. -/
theorem RecordBody.eq_of_fields {b b' : RecordBody} (kind : b.kind = b'.kind)
    (subject : b.subject.toNat = b'.subject.toNat) (cause : b.causeByte.toNat = b'.causeByte.toNat)
    (stamp : b.stamp = b'.stamp) : b = b' := by
  cases b with
  | start c status =>
    cases b' with
    | start c' status' =>
      simp only [causeByte_start_toNat] at cause
      obtain ⟨rfl, rfl⟩ := startCauseByte_fields cause
      rfl
    | _ => cases kind
  | slot k v c word =>
    cases b' with
    | slot k' v' c' word' =>
      simp only [subject_slot_toNat] at subject
      simp only [causeByte_slot_toNat] at cause
      obtain ⟨rfl, rfl⟩ := slotCauseByte_fields cause
      cases Fin.ext subject
      cases stamp
      rfl
    | _ => cases kind
  | matched p word =>
    cases b' with
    | matched p' word' =>
      simp only [subject_matched_toNat] at subject
      cases Fin.ext subject
      cases (stamp : word = word')
      rfl
    | _ => cases kind
  | line c =>
    cases b' with
    | line c' =>
      simp only [causeByte_line_toNat] at cause
      rw [LineCause.code_injective cause]
    | _ => cases kind
  | claim k c =>
    cases b' with
    | claim k' c' =>
      simp only [subject_claim_toNat] at subject
      simp only [causeByte_claim_toNat] at cause
      rw [Fin.ext subject, ClaimCause.code_injective cause]
    | _ => cases kind

theorem Record.bytes_injective : Function.Injective Record.bytes := by
  intro r r' same
  have numbers := congrArg (List.map BitVec.toNat) same
  simp only [Record.bytes_toNat, List.cons.injEq, and_true] at numbers
  obtain ⟨seq_low, seq_high, flags, subject, cause, stamp_low, stamp_high, lost_low, lost_high⟩ := numbers
  obtain ⟨kind, stamped, counted⟩ := kindByte_fields flags
  have seq : r.seq = r'.seq := word_eq_of_bytes seq_low seq_high
  have stamp : r.body.stamp = r'.body.stamp :=
    optionalWord_eq stamped (word_eq_of_bytes stamp_low stamp_high)
  have lost : r.lost = r'.lost := optionalWord_eq counted (word_eq_of_bytes lost_low lost_high)
  have body : r.body = r'.body := RecordBody.eq_of_fields kind subject cause stamp
  cases r
  cases r'
  exact (Record.mk.injEq ..).mpr ⟨seq, body, lost⟩

/-- Settles O52: each byte is the number that section 11.5 gives it, and the fields are read back off the
numbers. -/
theorem recordBytesInjective : Obligations.RecordBytesInjective := by
  refine ⟨fun r => ?_, fun _ _ same => Record.bytes_injective same⟩
  obtain ⟨seq, body, lost⟩ := r
  rw [Record.bytes_toNat]
  cases body with
  | start c status =>
    rw [causeByte_start_toNat]
    cases status <;> rfl
  | slot k v c stamp =>
    rw [subject_slot_toNat, causeByte_slot_toNat, Level.bit_eq]
    rfl
  | matched p stamp =>
    rw [subject_matched_toNat]
    rfl
  | line c =>
    rw [causeByte_line_toNat]
    rfl
  | claim k c =>
    rw [subject_claim_toNat, causeByte_claim_toNat]
    rfl

end Sys2Proof.Machine

/-! ### Well-formed commands (section 11.3, R178) -/

namespace Sys2Proof.Machine

open Sys2Proof

/-- The one ill-formed command is an UNKNOWN_REQUEST whose code byte names a request (R178). -/
theorem wf_eq_false_iff {c : Instr} :
    Instr.wf c = false ↔ ∃ b w r, c = .unknownRequest b w ∧ RequestCode.ofByte b = some r := by
  cases c with
  | unknownRequest b w =>
    cases code : RequestCode.ofByte b <;> simp [Instr.wf, code]
  | _ => simp [Instr.wf]

theorem exec_unknownRequest_known {b : Byte} {r : RequestCode} (known : RequestCode.ofByte b = some r)
    (w : PortWrite) (s : State) : exec (.unknownRequest b w) s = .refused .illFormed := by
  simp only [exec, execUnknownRequest, known]

theorem exec_completes {c : Instr} (wf : Instr.wf c = true) (s : State) : ∃ t, exec c s = .next t := by
  cases c with
  | unknownRequest b w =>
    have unknown : RequestCode.ofByte b = none := Option.isNone_iff_eq_none.mp wf
    exact ⟨_, exec_unknownRequest unknown w.dst w.rest s⟩
  | _ => exact ⟨_, rfl⟩

/-- Settles O3: every arm but UNKNOWN_REQUEST answers a next state, and that one refuses just the ill-formed
term. -/
theorem wellFormedCommandsComplete : Obligations.WellFormedCommandsComplete := by
  refine fun c s => ⟨fun wf => exec_completes wf s, fun ill => ?_⟩
  obtain ⟨b, w, r, rfl, known⟩ := wf_eq_false_iff.mp ill
  exact exec_unknownRequest_known known w s

end Sys2Proof.Machine

/-! ### The queue of waiting commands (log 2)

The queue is the model's own: what comes to wait is put there from outside, and no event reads or
changes it. -/

namespace Sys2Proof.Machine

open Sys2Proof

/-- Settles O1: the queue that the step takes apart is the one that was just put there. -/
theorem stepRunsFrontCommand : Obligations.StepRunsFrontCommand :=
  fun c rest s => step_cons (s.setPending (c :: rest)) c rest rfl

/-! #### Events between deliveries -/

theorem requestActions_pending : ∀ act ∈ requestActions, ∀ tag ops s,
    (act tag ops s).pending = s.pending := by
  simp [requestActions]

theorem takeWrite_pending (code : Byte) (rest : List Byte) (stn : BitVec 4) (addr : BitVec 2)
    (s : State) : (takeWrite code rest stn addr s).pending = s.pending := by
  rcases takeWrite_keeps State.pending (fun _ _ => rfl) (fun _ _ => rfl) requestActions_pending code
    rest stn addr s with ⟨restart, -⟩ | same
  · rw [restart]
    simp [restartStation]
  · exact same

theorem takeMid_pending (e : MidEvent) (s : State) : (takeMid e s).pending = s.pending := by
  cases e with
  | powerOnReset => simp [takeMid, supplyFails]
  | pinReset => simp [takeMid, resetPinFalls]
  | request code w stn addr =>
    exact addressed_keeps State.pending w.dst _ s (takeWrite_pending code w.rest stn addr s)
  | responseRead r => exact addressed_keeps State.pending r.dst _ s (by simp)
  | _ => simp [takeMid]

/-! #### The frame end -/

/-- The deliveries of a frame, with the events before each, leave the queue. -/
theorem deliverAll_pending (trs : List Transition) (between : List (List MidEvent)) (s : State) :
    (deliverAll trs between s).pending = s.pending :=
  kept_by_deliverAll (P := fun t => t.pending = s.pending)
    (fun e t h => (takeMid_pending e t).trans h) (fun tr t h => by simpa using h) trs between rfl

theorem acceptFrame_pending (between : List (List MidEvent)) (s : State) :
    (acceptFrame between s).pending = s.pending := by
  simp [acceptFrame, deliverAll_pending]

theorem endValid_pending (between : List (List MidEvent)) (s : State) :
    (endValid between s).pending = s.pending := by
  unfold endValid
  dsimp only
  split
  · simp
  · split <;> simp [acceptFrame_pending]

theorem endFrame_pending (check : Sample) (between : List (List MidEvent)) (s : State) :
    (endFrame check between s).pending = s.pending := by
  by_cases atCheck : s.AtCheck
  · rw [endFrame_of_atCheck check between atCheck]
    split
    · simp [endValid_pending]
    · simp
  · simp [endFrame_of_not_atCheck check between atCheck]

/-! #### Every command -/

theorem resetEnds_pending (stn : BitVec 4) (addr : BitVec 2) (s : State) :
    (resetEnds stn addr s).pending = s.pending := by
  unfold resetEnds
  split
  · simp
  · rfl

/-- Settles O2: the events between deliveries and the four other commands each leave the queue. -/
theorem execLeavesQueue : Obligations.ExecLeavesQueue :=
  fun _ s _ answers => kept_by_exec (P := fun u => u.pending = s.pending)
    (fun e u h => (takeMid_pending e u).trans h)
    (fun stn addr u h => (resetEnds_pending stn addr u).trans h)
    (fun b u h => by simpa using h) (fun u h => by simpa using h)
    (fun check between u h => (endFrame_pending check between u).trans h) rfl answers

end Sys2Proof.Machine
